-- ==== Sys2Proof/Word.lean ====
section
/-! DEFINITION. The word types of the protocol engine (spec/00_scope.md R9, R10). -/

namespace Sys2Proof

/-- A wire byte, a header field, a checksum: 8 bits (R9, R10). -/
abbrev Byte := BitVec 8

/-- A length, a capacity, a 16-bit address field: 16 bits (R9, R10). -/
abbrev U16 := BitVec 16

/-- A 64-bit radio address: 8 wire bytes (R10). -/
abbrev U64 := BitVec 64

/-- A reference to a caller-owned record (R36, R39). DESIGN CHOICE of its width (log 7), safe. -/
abbrev Ref := BitVec 16

end Sys2Proof
end

