-- ==== Sys2Proof/Config.lean ====
section
/-! DEFINITION. What an implementation fixes: the parameters of R8, and the drawn byte of R14. -/

namespace Sys2Proof

/-- The OPEN parameters of R8. They are plain data and stand in `State`, which no step changes in them, so
that a claim over all states quantifies over them, as R8 asks. `memValid` is the predicate `MEM_VALID`: the
addresses of the listed ranges, both ends included. -/
structure Params where
  /-- `SCRATCH_CAPACITY`, bytes, 0..65535 -/
  scratchCapacity : U16
  /-- `TX_RADIUS` -/
  txRadius : Byte
  /-- `TX_OPTIONS` -/
  txOptions : Byte
  /-- `ADDR_WIDTH`, bits -/
  addrWidth : Nat
  /-- `MEM_VALID`, as ranges of addresses (first, last) -/
  memValid : List (Nat × Nat)
  deriving DecidableEq, Repr

/-- `draw_u8()` of R14: the n-th byte the model draws. FREE VALUE (log 4): it has no body, so a claim that
holds of the model holds whatever the bytes are. -/
opaque Config.freeByte : Nat → Byte

end Sys2Proof
end

