-- ==== Sys2Proof/Syntax.lean ====
section
/-! DEFINITION. The instructions: one constructor per row of spec/opcode_table.json (R76, R77, R84 to R89,
R72, R124). The table has six formats; each is the decode of one point of the block (log 8). -/

namespace Sys2Proof

/-- The six formats of spec/opcode_table.json. -/
inductive Format where
  /-- the operations of R87 -/
  | op3
  /-- the raw receive byte classes of R85 -/
  | rxRawByte
  /-- the received frame types of R84 -/
  | rxFrameType
  /-- the transmitted frame types of R84 -/
  | txFrameType
  /-- the modem-status values of R124 -/
  | modemStatus
  /-- the escape pairs of R72 -/
  | escapePair
  deriving DecidableEq, Repr

/-- One constructor per row of the table, in the table's order. -/
inductive Instr where
  /-- PUSH: the transport hands over a raw byte (R103) -/
  | push (b : Byte)
  /-- PULL: the transport asks for a byte (R91) -/
  | pull
  /-- SUBMIT_AT: the task submits an AT command (R132) -/
  | submitAt (d : Ref)
  /-- SUBMIT_TX: the task submits a transmission (R133) -/
  | submitTx (d : Ref)
  /-- RECEIVE: the task waits for a frame (R144) -/
  | receive (r : Ref)
  /-- ASSOC_READ: the task reads the association (R145) -/
  | assocRead
  /-- op code 0b110 (R89) -/
  | reserved110
  /-- op code 0b111 (R89) -/
  | reserved111
  /-- raw byte 0x11 (R104) -/
  | rxFlow11
  /-- raw byte 0x13 (R104) -/
  | rxFlow13
  /-- raw byte 0x7E (R105) -/
  | rxDelim7e
  /-- raw byte 0x7D (R106) -/
  | rxEsc7d
  /-- any other raw byte (R107) -/
  | rxData (b : Byte)
  /-- received type value 0x88 (R115) -/
  | rxAtResponse
  /-- received type value 0x8A (R113) -/
  | rxModemStatus
  /-- received type value 0x8B (R114) -/
  | rxTransmitStatus
  /-- received type value 0x90 (R116) -/
  | rxReceivePacket
  /-- any other received type value (R117) -/
  | rxOtherType (v : Byte)
  /-- outgoing type 0x08: the AT command request header (R76) -/
  | txAtCommand (d : Ref)
  /-- outgoing type 0x10: the transmit request header (R77) -/
  | txTransmitRequest (d : Ref)
  /-- modem status 0x02, joined (R124) -/
  | msJoined
  /-- modem status 0x03, left (R124) -/
  | msLeft
  /-- any other modem status (R124) -/
  | msOther (st : Byte)
  /-- special value 0x7E sent (R72, R99) -/
  | esc7e
  /-- special value 0x7D sent -/
  | esc7d
  /-- special value 0x11 sent -/
  | esc11
  /-- special value 0x13 sent -/
  | esc13
  deriving DecidableEq, Repr

end Sys2Proof
end

