-- ==== Sys2Proof/WellFormed.lean ====
section
/-! DEFINITION. Which instruction terms stand for a row of the table: a row that takes "any value not
matched by the rows above" carries none of the values of those rows (R85, R84, R124). -/

namespace Sys2Proof

/-- The row is one the table has. -/
def Instr.wf : Instr → Bool
  | .push _ => true
  | .pull => true
  | .submitAt _ => true
  | .submitTx _ => true
  | .receive _ => true
  | .assocRead => true
  | .reserved110 => true
  | .reserved111 => true
  | .rxFlow11 => true
  | .rxFlow13 => true
  | .rxDelim7e => true
  | .rxEsc7d => true
  | .rxData b => b != 0x11 && b != 0x13 && b != 0x7E && b != 0x7D
  | .rxAtResponse => true
  | .rxModemStatus => true
  | .rxTransmitStatus => true
  | .rxReceivePacket => true
  | .rxOtherType v => v != 0x88 && v != 0x8A && v != 0x8B && v != 0x90
  | .txAtCommand _ => true
  | .txTransmitRequest _ => true
  | .msJoined => true
  | .msLeft => true
  | .msOther st => st != 0x02 && st != 0x03
  | .esc7e => true
  | .esc7d => true
  | .esc11 => true
  | .esc13 => true

end Sys2Proof
end

