-- ==== Sys2Proof/Decode.lean ====
section
/-! DEFINITION. The decoders of the six formats and the encoder (spec/30_encoding.md, opcode_table.json).
An op3 word is one byte whose bits 2..0 are the op code of R87 and whose bits 7..3 are zero, followed by
its operand bytes: PUSH's raw byte, or a 16-bit reference, high byte first (log 6, DESIGN CHOICE, safe).
The other five formats are one byte each; the two outgoing frame types carry the reference as well. -/

namespace Sys2Proof

/-- Why bytes are no instruction. -/
inductive DecodeError where
  /-- no byte at all -/
  | empty
  /-- an op3 byte with a bit above the 3-bit op code set -/
  | badOpByte (b : Byte)
  /-- an operand byte is missing -/
  | missingOperand
  /-- bytes stand after the operation -/
  | trailingBytes
  /-- not an outgoing frame type of R84 -/
  | notTxType (b : Byte)
  /-- not a value of the escape set of R15 -/
  | notSpecial (b : Byte)
  deriving DecidableEq, Repr

/-- A 16-bit reference operand, high byte first (log 6). -/
def withRef (f : Ref → Instr) : List Byte → Except DecodeError (Instr × List Byte)
  | h :: l :: rest => .ok (f (h ++ l), rest)
  | _ => .error .missingOperand

/-- The raw byte operand of PUSH (R88). -/
def withByte (f : Byte → Instr) : List Byte → Except DecodeError (Instr × List Byte)
  | b :: rest => .ok (f b, rest)
  | [] => .error .missingOperand

/-- The operations by op code (R87, R89). -/
def decodeOp (op : Byte) (rest : List Byte) : Except DecodeError (Instr × List Byte) :=
  if op = 0b000 then withByte .push rest
  else if op = 0b001 then .ok (.pull, rest)
  else if op = 0b010 then withRef .submitAt rest
  else if op = 0b011 then withRef .submitTx rest
  else if op = 0b100 then withRef .receive rest
  else if op = 0b101 then .ok (.assocRead, rest)
  else if op = 0b110 then .ok (.reserved110, rest)
  else if op = 0b111 then .ok (.reserved111, rest)
  else .error (.badOpByte op)

/-- The class of a raw received byte (R85). -/
def decodeRaw (b : Byte) : Instr :=
  if b = 0x11 then .rxFlow11
  else if b = 0x13 then .rxFlow13
  else if b = 0x7E then .rxDelim7e
  else if b = 0x7D then .rxEsc7d
  else .rxData b

/-- The received frame type of a value (R84). -/
def decodeType (v : Byte) : Instr :=
  if v = 0x88 then .rxAtResponse
  else if v = 0x8A then .rxModemStatus
  else if v = 0x8B then .rxTransmitStatus
  else if v = 0x90 then .rxReceivePacket
  else .rxOtherType v

/-- The modem status of a value (R124). -/
def decodeStatus (st : Byte) : Instr :=
  if st = 0x02 then .msJoined
  else if st = 0x03 then .msLeft
  else .msOther st

/-- The outgoing frame type (R84). -/
def decodeTxType (t : Byte) (rest : List Byte) : Except DecodeError (Instr × List Byte) :=
  if t = 0x08 then withRef .txAtCommand rest
  else if t = 0x10 then withRef .txTransmitRequest rest
  else .error (.notTxType t)

/-- The escape pair of a special value (R72). -/
def decodeEscape (v : Byte) : Except DecodeError Instr :=
  if v = 0x7E then .ok .esc7e
  else if v = 0x7D then .ok .esc7d
  else if v = 0x11 then .ok .esc11
  else if v = 0x13 then .ok .esc13
  else .error (.notSpecial v)

/-- The decoder of a format: an instruction and the bytes after it, or why there is none. -/
def decode (f : Format) : List Byte → Except DecodeError (Instr × List Byte)
  | [] => .error .empty
  | b :: rest =>
    match f with
    | .op3 => decodeOp b rest
    | .rxRawByte => .ok (decodeRaw b, rest)
    | .rxFrameType => .ok (decodeType b, rest)
    | .txFrameType => decodeTxType b rest
    | .modemStatus => .ok (decodeStatus b, rest)
    | .escapePair => (decodeEscape b).map fun i => (i, rest)

/-- One operation as the environment hands it over: an op3 word and nothing after it. -/
def decodeOperation (bytes : List Byte) : Except DecodeError Instr :=
  match decode .op3 bytes with
  | .error e => .error e
  | .ok (i, []) => .ok i
  | .ok (_, _ :: _) => .error .trailingBytes

/-- The format a row stands in. -/
def Instr.format : Instr → Format
  | .push _ => .op3
  | .pull => .op3
  | .submitAt _ => .op3
  | .submitTx _ => .op3
  | .receive _ => .op3
  | .assocRead => .op3
  | .reserved110 => .op3
  | .reserved111 => .op3
  | .rxFlow11 => .rxRawByte
  | .rxFlow13 => .rxRawByte
  | .rxDelim7e => .rxRawByte
  | .rxEsc7d => .rxRawByte
  | .rxData _ => .rxRawByte
  | .rxAtResponse => .rxFrameType
  | .rxModemStatus => .rxFrameType
  | .rxTransmitStatus => .rxFrameType
  | .rxReceivePacket => .rxFrameType
  | .rxOtherType _ => .rxFrameType
  | .txAtCommand _ => .txFrameType
  | .txTransmitRequest _ => .txFrameType
  | .msJoined => .modemStatus
  | .msLeft => .modemStatus
  | .msOther _ => .modemStatus
  | .esc7e => .escapePair
  | .esc7d => .escapePair
  | .esc11 => .escapePair
  | .esc13 => .escapePair

/-- The two bytes of a reference, high byte first (log 6). -/
def refBytes (d : Ref) : List Byte := [d.extractLsb' 8 8, d.extractLsb' 0 8]

/-- The bytes of a well-formed instruction in its format. -/
def encode : Instr → List Byte
  | .push b => [0b000, b]
  | .pull => [0b001]
  | .submitAt d => 0b010 :: refBytes d
  | .submitTx d => 0b011 :: refBytes d
  | .receive r => 0b100 :: refBytes r
  | .assocRead => [0b101]
  | .reserved110 => [0b110]
  | .reserved111 => [0b111]
  | .rxFlow11 => [0x11]
  | .rxFlow13 => [0x13]
  | .rxDelim7e => [0x7E]
  | .rxEsc7d => [0x7D]
  | .rxData b => [b]
  | .rxAtResponse => [0x88]
  | .rxModemStatus => [0x8A]
  | .rxTransmitStatus => [0x8B]
  | .rxReceivePacket => [0x90]
  | .rxOtherType v => [v]
  | .txAtCommand d => 0x08 :: refBytes d
  | .txTransmitRequest d => 0x10 :: refBytes d
  | .msJoined => [0x02]
  | .msLeft => [0x03]
  | .msOther st => [st]
  | .esc7e => [0x7E]
  | .esc7d => [0x7D]
  | .esc11 => [0x11]
  | .esc13 => [0x13]

/-- The bytes of a table word: `nbits` bits of `w`, its first byte in the least significant bits, then zero
bytes up to the longest instruction (three bytes). -/
def wordBytes (nbits w : Nat) : List Byte :=
  ((List.range ((nbits + 7) / 8)).map fun k => BitVec.ofNat 8 (w >>> (8 * k))) ++ [0, 0]

/-- A byte that several formats of the table give a row is read in the first of: the operations, the raw
control bytes, the received types, the outgoing types; and a byte none of these has is a raw data byte
(log 8). So the modem-status and escape-pair rows, whose bytes are all taken, are never the answer. -/
def decodeTableBytes : List Byte → Option Instr
  | [] => none
  | b :: rest =>
    match decodeOp b rest with
    | .ok (i, _) => some i
    | .error _ =>
      match decodeRaw b with
      | .rxData _ =>
        match decodeType b with
        | .rxOtherType _ =>
          match decodeTxType b rest with
          | .ok (i, _) => some i
          | .error _ => some (.rxData b)
        | i => some i
      | i => some i

/-- The instruction this decoder reads from the table word `w` of `nbits` bits. -/
def decodeTableWord (nbits w : Nat) : Option Instr := decodeTableBytes (wordBytes nbits w)

end Sys2Proof
end

