-- ==== Sys2Proof/Machine/State.lean ====
section
/-! DEFINITION. The state of the protocol engine as plain data (spec/10_state.md R19 to R47), its
environment's moves, its outputs, the reasons a step can stop, and the state after reset (R184). An external-memory address
is a plain Nat: `ADDR_WIDTH` is a parameter (R8), and an address that does not fit in it is refused by the
access, never wrapped (R52; log 17). -/

namespace Sys2Proof.Machine

/-- `tx_state`: which byte the next PULL produces (R22, R23). -/
inductive TxState where
  | idle | frameMark | length1 | length2 | header | data | checksum
  deriving DecidableEq, Repr

/-- `rx_state` (R27). -/
inductive RxState where
  | frameMark | length1 | length2 | frameType
  | modemStatus | transmitStatus | atResponse | data | dataRequested
  deriving DecidableEq, Repr

/-- `expect`: the outstanding-request expectation (R34). -/
inductive Expect where
  | none | atResponse | transmitStatus
  deriving DecidableEq, Repr

/-- `assoc`: the association state (R40). -/
inductive Assoc where
  | unknown | associated | notAssociated
  deriving DecidableEq, Repr

/-- `wait`: what the suspended task waits for (R44). -/
inductive WaitCond where
  | none | awaitingIdleAndResponse | awaitingSessionClear
  deriving DecidableEq, Repr

/-- `task_op`: the task command in progress and its phase (R45). -/
inductive TaskOp where
  | noOp | submitWait | recvCopy | recvWait
  deriving DecidableEq, Repr

/-- The task commands, as `FLT_BUSY` records them (R161). -/
inductive TaskCommand where
  | submitAt | submitTx | receive | assocRead
  deriving DecidableEq, Repr

/-- The model faults of R161 with their recorded info. -/
inductive FaultCode where
  /-- `FLT_BUSY`: a task command while one is active, or a SUBMIT while `tx_state` is not Idle -/
  | busy (op : TaskCommand)
  /-- `FLT_TOO_LONG`: header and payload of more than 0xFFFF bytes -/
  | tooLong (len : Nat)
  /-- `FLT_MEM`: an external-memory address that is not valid -/
  | mem (addr : Nat)
  /-- `FLT_BAD_OP`: op code 0b110 or 0b111 -/
  | badOp (op : BitVec 3)
  deriving DecidableEq, Repr

/-- The Transmitter's fields (R19, R22 to R26). -/
structure TxRegs where
  /-- `tx_state` -/
  state : TxState
  /-- `tx_esc_pending` -/
  escPending : Bool
  /-- `tx_esc_byte` -/
  escByte : Byte
  /-- `tx_sum` -/
  sum : Byte
  /-- `tx_hdr[0..13]` -/
  hdr : Vector Byte 14
  /-- `tx_hdr_len` -/
  hdrLen : Byte
  /-- `tx_pptr` -/
  pptr : Nat
  /-- `tx_plen` -/
  plen : U16
  /-- `tx_flen` -/
  flen : U16
  /-- `tx_idx` -/
  idx : U16
  deriving DecidableEq, Repr

/-- The Receiver's fields (R19, R27 to R33). -/
structure RxRegs where
  /-- `rx_state` -/
  state : RxState
  /-- `rx_esc` -/
  esc : Bool
  /-- `rx_len` -/
  len : U16
  /-- `rx_count` -/
  count : U16
  /-- `rx_sum` -/
  sum : Byte
  /-- `rx_type` -/
  type : Byte
  /-- `rx_hdr[0..10]` -/
  hdr : Vector Byte 11
  /-- `rx_full` -/
  full : U16
  /-- `rx_limit` -/
  limit : U16
  /-- `scratch[0..SCRATCH_CAPACITY-1]`: the bytes that differ from 0x00, by index, in the canonical form
  of a table (log 3 for the value at reset) -/
  scratch : List (Nat × Byte)
  deriving DecidableEq, Repr

/-- An `AtCommand` request record (R46). -/
structure AtRecord where
  cmd0 : Byte
  cmd1 : Byte
  outPtr : Nat
  outLen : U16
  inPtr : Nat
  inCap : U16
  result : Byte
  deriving DecidableEq, Repr

/-- A `TransmitData` request record (R46). -/
structure TxRecord where
  addr64 : U64
  addr16 : U16
  dataPtr : Nat
  dataLen : U16
  result : Byte
  deriving DecidableEq, Repr

/-- A ReceiveDescriptor record (R47). -/
structure RecvRecord where
  bufPtr : Nat
  cap : U16
  addr64 : U64
  addr16 : U16
  length : U16
  deriving DecidableEq, Repr

/-- `req`'s value: a reference to a RequestDescriptor of one of the two kinds (R36, R46). -/
inductive ReqRef where
  | atCommand (d : Ref)
  | transmitData (d : Ref)
  deriving DecidableEq, Repr

/-- The caller-owned records (R46, R47), each kind a table by reference; a reference no entry lists is a
record of zeros (log 7). -/
structure Records where
  atCmds : List (Nat × AtRecord)
  txDatas : List (Nat × TxRecord)
  recvs : List (Nat × RecvRecord)
  deriving DecidableEq, Repr

/-- Correlation, session and association fields (R19, R34 to R40). -/
structure Corr where
  /-- `expect` -/
  expect : Expect
  /-- `seq_id` -/
  seqId : Byte
  /-- `req` -/
  req : Option ReqRef
  /-- `sess_pending` -/
  sessPending : Bool
  /-- `sess_success` -/
  sessSuccess : Bool
  /-- `sess` -/
  sess : Option Ref
  /-- `assoc` -/
  assoc : Assoc
  deriving DecidableEq, Repr

/-- The task's bookkeeping (R19, R44, R45). -/
structure TaskRegs where
  /-- `wait` -/
  wait : WaitCond
  /-- `task_op` -/
  op : TaskOp
  /-- `copy_k` -/
  copyK : U16
  /-- `copy_c` -/
  copyC : U16
  /-- `copy_i` -/
  copyI : U16
  deriving DecidableEq, Repr

/-- A byte event of the transport (R166). -/
inductive ByteEvent where
  | push (b : Byte)
  | pull
  deriving DecidableEq, Repr

/-- A move of the environment (R62, R165, R174, R176; log 5, log 13). -/
inductive Input where
  /-- an operation, as its bytes -/
  | operation (bytes : List Byte)
  /-- the scheduler resumes the task: its next phase, if it is enabled (R174) -/
  | resume
  /-- the caller writes a byte of its memory (R50, R188) -/
  | callerByte (a : Nat) (v : Byte)
  /-- the caller writes an AtCommand record (R46, R188) -/
  | callerAt (d : Ref) (rec : AtRecord)
  /-- the caller writes a TransmitData record (R46, R188) -/
  | callerTx (d : Ref) (rec : TxRecord)
  /-- the caller writes a ReceiveDescriptor (R47, R189) -/
  | callerRecv (d : Ref) (rec : RecvRecord)
  deriving DecidableEq, Repr

/-- What the block hands to the task and the transport besides PULL results (R14, R88, R136). -/
inductive TaskEvent where
  /-- `kick()`: data is ready to send (R136) -/
  | kick
  /-- SUBMIT returned this result byte (R138) -/
  | submitReturned (result : Byte)
  /-- RECEIVE returned (R146, R152) -/
  | receiveReturned (delivered : Bool)
  /-- ASSOC_READ returned (R145) -/
  | assocReturned (associated : Bool)
  deriving DecidableEq, Repr

/-- The trace labels of R160; no rule reads them. -/
inductive DiscardReason where
  /-- `DR_LEN0` -/
  | len0
  /-- `DR_SHORT` -/
  | short
  /-- `DR_UNEXPECTED` -/
  | unexpected
  /-- `DR_TYPE` -/
  | type
  /-- `DR_CHECKSUM` -/
  | checksum
  /-- `DR_RESYNC` -/
  | resync
  deriving DecidableEq, Repr

/-- What the block has put out so far, newest first (log 12). -/
structure Outputs where
  /-- the result of each PULL (R14, R91) -/
  pulled : List (Option Byte)
  /-- kicks and results (R14, R136) -/
  task : List TaskEvent
  /-- discard reasons (R160) -/
  discards : List DiscardReason
  deriving DecidableEq, Repr

/-- The state of the machine: the block state of R19, the storage its steps reach (R49), the parameters of
R8, and the model's own `draws`, `inputs`, `held` and `out`. -/
structure State where
  tx : TxRegs
  rx : RxRegs
  corr : Corr
  task : TaskRegs
  /-- `ie` (R41) -/
  ie : Bool
  /-- `fault` (R161) -/
  fault : Option FaultCode
  /-- the external memory (R49): the bytes that differ from what an unlisted address reads as (log 2) -/
  mem : List Host.Cell
  recs : Records
  params : Params
  /-- how many bytes `draw_u8()` has given (R14, log 4) -/
  draws : Nat
  /-- the environment's coming moves, oldest first (R62, log 5) -/
  inputs : List Input
  /-- the byte events the transport holds while `ie` is false, oldest first (R167, log 10) -/
  held : List ByteEvent
  out : Outputs
  deriving DecidableEq, Repr

/-- Why a step stops. -/
inductive Fault where
  /-- Raised by every step of a block whose `fault` is set: R161, no further step is enabled. Safe. -/
  | halted (f : FaultCode)
  /-- Raised by a step that needs the ReceiveDescriptor of `sess` while `sess` is none: RECEIVE phase B, or
  the Receiver with a session pending. No run reaches it (`Inv`). Safe (log 14). -/
  | noSession
  /-- Raised by a completion of 0x88 or 0x8B, or SUBMIT phase W, while `req` is none. No run reaches it
  (`Inv`). Safe (log 14). -/
  | noRequest
  /-- Raised by a clearing 0x88 completion while `req` is a TransmitData record, which has no in_buffer. No
  run reaches it (`Inv`). Safe (log 14). -/
  | noInBuffer
  /-- Raised by the Receiver in a body state whose type byte has no header size (R82: H is undefined). No run
  reaches it (`Inv`). Safe (log 14). -/
  | headerSizeUndefined (t : Byte)
  /-- Raised by PULL in Header with `tx_idx` past the 14 bytes of `tx_hdr`. No run reaches it (`Inv`). Safe
  (log 14). -/
  | headerIndexOutside (i : Nat)
  deriving DecidableEq, Repr

/-- Why an instruction has no meaning. -/
inductive Refusal where
  /-- Raised by exec's arm of an instruction that has no meaning yet: none. Safe. -/
  | notModelled (mnemonic : String)
  /-- Raised by step on bytes that are no operation of R87 (log 6). Safe. -/
  | undecodable (e : DecodeError)
  deriving DecidableEq, Repr

/-- The Transmitter after reset (R184). -/
def TxRegs.reset : TxRegs :=
  { state := .idle, escPending := false, escByte := 0, sum := 0, hdr := Vector.replicate 14 0,
    hdrLen := 0, pptr := 0, plen := 0, flen := 0, idx := 0 }

/-- The Receiver after reset (R184); scratch is unspecified there and zeros here (log 3). -/
def RxRegs.reset : RxRegs :=
  { state := .frameMark, esc := false, len := 0, count := 0, sum := 0, type := 0,
    hdr := Vector.replicate 11 0, full := 0, limit := 0, scratch := [] }

/-- Correlation, session and association after reset (R184, R185). -/
def Corr.reset : Corr :=
  { expect := .none, seqId := 0, req := none, sessPending := false, sessSuccess := false,
    sess := none, assoc := .unknown }

/-- The task's bookkeeping after reset (R184). -/
def TaskRegs.reset : TaskRegs :=
  { wait := .none, op := .noOp, copyK := 0, copyC := 0, copyI := 0 }

/-- The values of the OPEN parameters in the reset state: those of 95_test_vectors.md. DESIGN CHOICE
(log 1), unsafe for a claim about the reset state that rests on them. -/
def Params.reset : Params :=
  { scratchCapacity := 64, txRadius := 0, txOptions := 0, addrWidth := 16, memValid := [(0x0000, 0x0FFF)] }

/-- The state before any operation (R183, R184). -/
def State.reset : State :=
  { tx := TxRegs.reset, rx := RxRegs.reset, corr := Corr.reset, task := TaskRegs.reset,
    ie := true, fault := none, mem := [], recs := { atCmds := [], txDatas := [], recvs := [] },
    params := Params.reset, draws := 0, inputs := [], held := [],
    out := { pulled := [], task := [], discards := [] } }

end Sys2Proof.Machine
end

