-- ==== Sys2Proof/Machine/Ops.lean ====
section
/-! DEFINITION. The named operations over memory, records, outputs and contexts, and taking a model fault
(spec/20_memory.md R49 to R61, spec/60_exceptions.md R161 to R172, spec/00_scope.md R12 to R14). -/

namespace Sys2Proof.Machine

/-! Tables: sparse storage by key, keys strictly rising, no entry equal to what an unlisted key reads as. -/

/-- The value a table holds at a key; `d` is what an unlisted key reads as. -/
def tableGet {α : Type} (d : α) : List (Nat × α) → Nat → α
  | [], _ => d
  | (k, v) :: t, a => if a = k then v else tableGet d t a

/-- The table with `v` at key `a`, in canonical form if it was. -/
def tableSet {α : Type} [DecidableEq α] (d : α) : List (Nat × α) → Nat → α → List (Nat × α)
  | [], a, v => if v = d then [] else [(a, v)]
  | (k, w) :: t, a, v =>
    if a < k then (if v = d then (k, w) :: t else (a, v) :: (k, w) :: t)
    else if a = k then (if v = d then t else (k, v) :: t)
    else (k, w) :: tableSet d t a v

/-- Canonical form with every key at least `lo`. -/
def tableWfFrom {α : Type} [DecidableEq α] (d : α) : Nat → List (Nat × α) → Bool
  | _, [] => true
  | lo, (k, v) :: t => decide (lo ≤ k) && decide (v ≠ d) && tableWfFrom d (k + 1) t

/-- Canonical form: keys strictly rising, no entry equal to the unlisted value. -/
def tableWf {α : Type} [DecidableEq α] (d : α) (t : List (Nat × α)) : Bool := tableWfFrom d 0 t

/-! External memory. -/

/-- What a byte of external memory that nothing has written reads as: 0x00. DESIGN CHOICE (log 2), unsafe. -/
def unlistedByte : Byte := 0x00

/-- External memory is in canonical form. -/
def Memory.wf (m : List Host.Cell) : Bool := tableWf unlistedByte m

/-- The byte of external memory at an address. -/
def Memory.read (m : List Host.Cell) (a : Nat) : Byte := tableGet unlistedByte m a

/-- External memory with a byte written. -/
def Memory.write (m : List Host.Cell) (a : Nat) (v : Byte) : List Host.Cell := tableSet unlistedByte m a v

/-- `MEM_VALID` and the address width together: R52, the access is admitted. -/
def addrValid (p : Params) (a : Nat) : Bool :=
  decide (a < 2 ^ p.addrWidth) && p.memValid.any fun r => decide (r.1 ≤ a) && decide (a ≤ r.2)

/-- `MemRead(a, 1)` (R13): none where R52 raises `FLT_MEM`. -/
def State.memRead (s : State) (a : Nat) : Option Byte :=
  if addrValid s.params a then some (Memory.read s.mem a) else none

/-- `MemWrite(a, 1, v)` (R13): none where R52 raises `FLT_MEM`. -/
def State.memWrite (s : State) (a : Nat) (v : Byte) : Option State :=
  if addrValid s.params a then some { s with mem := Memory.write s.mem a v } else none

/-! Caller-owned records (R46, R47), by reference. -/

/-- The AtCommand record no entry lists (log 7). -/
def AtRecord.zero : AtRecord :=
  { cmd0 := 0, cmd1 := 0, outPtr := 0, outLen := 0, inPtr := 0, inCap := 0, result := 0 }

/-- The TransmitData record no entry lists (log 7). -/
def TxRecord.zero : TxRecord := { addr64 := 0, addr16 := 0, dataPtr := 0, dataLen := 0, result := 0 }

/-- The ReceiveDescriptor no entry lists (log 7). -/
def RecvRecord.zero : RecvRecord := { bufPtr := 0, cap := 0, addr64 := 0, addr16 := 0, length := 0 }

/-- The AtCommand record at a reference. -/
def State.atRecord (s : State) (d : Ref) : AtRecord := tableGet AtRecord.zero s.recs.atCmds d.toNat

/-- The TransmitData record at a reference. -/
def State.txRecord (s : State) (d : Ref) : TxRecord := tableGet TxRecord.zero s.recs.txDatas d.toNat

/-- The ReceiveDescriptor at a reference. -/
def State.recvRecord (s : State) (r : Ref) : RecvRecord := tableGet RecvRecord.zero s.recs.recvs r.toNat

/-- Write an AtCommand record. -/
def State.setAtRecord (s : State) (d : Ref) (v : AtRecord) : State :=
  { s with recs := { s.recs with atCmds := tableSet AtRecord.zero s.recs.atCmds d.toNat v } }

/-- Write a TransmitData record. -/
def State.setTxRecord (s : State) (d : Ref) (v : TxRecord) : State :=
  { s with recs := { s.recs with txDatas := tableSet TxRecord.zero s.recs.txDatas d.toNat v } }

/-- Write a ReceiveDescriptor. -/
def State.setRecvRecord (s : State) (r : Ref) (v : RecvRecord) : State :=
  { s with recs := { s.recs with recvs := tableSet RecvRecord.zero s.recs.recvs r.toNat v } }

/-- `s.req.result` (R36). -/
def State.requestResult (s : State) : ReqRef → Byte
  | .atCommand d => (s.atRecord d).result
  | .transmitData d => (s.txRecord d).result

/-- `s.req.result <- v` (R36): of the record, only `result`. -/
def State.setRequestResult (s : State) (q : ReqRef) (v : Byte) : State :=
  match q with
  | .atCommand d => s.setAtRecord d { s.atRecord d with result := v }
  | .transmitData d => s.setTxRecord d { s.txRecord d with result := v }

/-! Outputs (R14). -/

/-- `emit(o)`: the result of a PULL. -/
def State.emit (s : State) (o : Option Byte) : State := { s with out := { s.out with pulled := o :: s.out.pulled } }

/-- Record a kick or a returned result. -/
def State.report (s : State) (e : TaskEvent) : State := { s with out := { s.out with task := e :: s.out.task } }

/-- Record a discard reason (R160). -/
def State.note (s : State) (r : DiscardReason) : State :=
  { s with out := { s.out with discards := r :: s.out.discards } }

/-! The outcome of a step. -/

/-- What the pseudocode of a step comes to. -/
inductive Res where
  /-- it ran to its end -/
  | ok (s : State)
  /-- it raised a model fault (R161) -/
  | raise (f : FaultCode)
  /-- it has no meaning in this state, which no run reaches (log 14) -/
  | stop (r : Fault)

/-- What stands after a step of the pseudocode that may raise. -/
def Res.andThen (r : Res) (k : State → Res) : Res :=
  match r with
  | .ok s => k s
  | .raise f => .raise f
  | .stop r => .stop r

/-- Taking a model fault (R161): the step makes no change but recording the fault. -/
def State.raise (s : State) (f : FaultCode) : State := { s with fault := some f }

/-- A step from `s`: precise, it runs whole or records its fault in `s` (R161, R171). -/
def settle (s : State) : Res → Host.Outcome State Fault Refusal
  | .ok t => .next t
  | .raise f => .next (s.raise f)
  | .stop r => .fault r

/-- R161: once `s.fault` is set no further step is enabled. -/
def whenLive (s : State) (o : Host.Outcome State Fault Refusal) : Host.Outcome State Fault Refusal :=
  match s.fault with
  | some f => .fault (.halted f)
  | none => o

/-- A callback event (R57, R163). While `ie` is false it is not delivered: the transport holds it (R167). -/
def deliver (e : ByteEvent) (s : State) (r : Res) : Host.Outcome State Fault Refusal :=
  whenLive s (if s.ie then settle s r else .next { s with held := s.held ++ [e] })

/-- The critical section of R42: save `ie`, clear it, run the body, restore it, on every path (R43). -/
def State.critical (s : State) (body : State → Res) : Res :=
  (body { s with ie := false }).andThen fun t => .ok { t with ie := s.ie }

/-- A phase of the task (R58). -/
def taskPhase (s : State) (r : Res) : Host.Outcome State Fault Refusal := whenLive s (settle s r)

/-! Free bytes (R14, R126). -/

/-- `draw_u8()` written to `n` addresses from `a` on, in rising order; the first address that is not valid
raises `FLT_MEM` (R126; the order is DEDUCED, log 15). -/
def State.drawInto : Nat → Nat → State → Res
  | 0, _, s => .ok s
  | n + 1, a, s =>
    match s.memWrite a (Config.freeByte s.draws) with
    | none => .raise (.mem a)
    | some t => State.drawInto n (a + 1) { t with draws := t.draws + 1 }

end Sys2Proof.Machine
end

