-- ==== Sys2Proof/Machine/Flags.lean ====
section
/-! DEFINITION. The tests and byte computations the rules make: byte classes (R15), the checksum (R71), the
sequence id (R134), and the predicates of the suspension points (R44). -/

namespace Sys2Proof.Machine

/-- `is_special(v)` (R15). -/
def isSpecial (v : Byte) : Bool := v == 0x7E || v == 0x7D || v == 0x11 || v == 0x13

/-- `is_flow(v)` (R15). -/
def isFlow (v : Byte) : Bool := v == 0x11 || v == 0x13

/-- The escape mask of R72: the second byte of an escape pair, and the value of it (R107). -/
def escapeMask (v : Byte) : Byte := v ^^^ 0x20

/-- The checksum byte of a body whose values sum to `sum` (R71, R98). -/
def checksumOf (sum : Byte) : Byte := 0xFF - sum

/-- The received checksum test (R71, R121). -/
def checksumValid (sum v : Byte) : Bool := sum + v == 0xFF

/-- `next_id` (R134). -/
def nextId (x : Byte) : Byte := if x = 0xFF then 0x01 else x + 1

/-- The boolean every reader sees of `assoc` (R40). -/
def State.associated (s : State) : Bool := s.corr.assoc == .associated

/-- SUBMIT's wait predicate (R137). -/
def State.submitDone (s : State) : Bool := s.tx.state == .idle && s.corr.expect == .none

/-- RECEIVE's wait predicate (R151). -/
def State.sessionClear (s : State) : Bool := !s.corr.sessPending

/-- What the scheduler evaluates for a wait condition (R44, R174). -/
def State.waitHolds (s : State) : WaitCond → Bool
  | .none => true
  | .awaitingIdleAndResponse => s.submitDone
  | .awaitingSessionClear => s.sessionClear

end Sys2Proof.Machine
end

