-- ==== Sys2Proof/Machine/Operands.lean ====
section
/-! DEFINITION. Operand forms: header layouts and sizes (R76 to R83), big-endian assembly (R53, R83), and the
numeric codes of the enumerations (R22, R27, R34, R40, R44, R45, R87, R161). -/

namespace Sys2Proof.Machine

/-- `v[15:8]`. -/
def hiByte (v : U16) : Byte := v.extractLsb' 8 8

/-- `v[7:0]`. -/
def loByte (v : U16) : Byte := v.extractLsb' 0 8

/-- Byte i of a 64-bit address on the wire: `v[63 - 8*i : 56 - 8*i]` (R53, R133). -/
def wireByte64 (v : U64) (i : Nat) : Byte := v.extractLsb' (56 - 8 * i) 8

/-- `{hi, lo}` (R11). -/
def pair (hi lo : Byte) : U16 := hi ++ lo

/-- The header size of a received type byte (R82): undefined for every other type byte. -/
def headerSize (t : Byte) : Option Nat :=
  if t = 0x88 then some 4
  else if t = 0x8A then some 1
  else if t = 0x8B then some 6
  else if t = 0x90 then some 11
  else none

/-- `addr64` of a 0x90 header (R81, R83). -/
def rxAddr64 (h : Vector Byte 11) : U64 :=
  h[0] ++ h[1] ++ h[2] ++ h[3] ++ h[4] ++ h[5] ++ h[6] ++ h[7]

/-- `addr16` of a 0x90 header (R81, R83). -/
def rxAddr16 (h : Vector Byte 11) : U16 := pair h[8] h[9]

/-- The sequence id of a 0x88 header (R78). -/
def atResponseId (h : Vector Byte 11) : Byte := h[0]

/-- `status` of a 0x88 header (R78). -/
def atResponseStatus (h : Vector Byte 11) : Byte := h[3]

/-- `status` of a 0x8A header (R79). -/
def modemStatusValue (h : Vector Byte 11) : Byte := h[0]

/-- `cmd[0]` of a 0x88 header (R78). -/
def atResponseCmd0 (h : Vector Byte 11) : Byte := h[1]

/-- `cmd[1]` of a 0x88 header (R78). -/
def atResponseCmd1 (h : Vector Byte 11) : Byte := h[2]

/-- `id` of a 0x8B header (R80): no rule compares it (R125). -/
def transmitStatusId (h : Vector Byte 11) : Byte := h[0]

/-- `addr16` of a 0x8B header (R80, R83). -/
def transmitStatusAddr16 (h : Vector Byte 11) : U16 := pair h[1] h[2]

/-- `retries` of a 0x8B header (R80). -/
def transmitRetries (h : Vector Byte 11) : Byte := h[3]

/-- `delivery` of a 0x8B header (R80). -/
def transmitDelivery (h : Vector Byte 11) : Byte := h[4]

/-- `discovery` of a 0x8B header (R80). -/
def transmitDiscovery (h : Vector Byte 11) : Byte := h[5]

/-- `options` of a 0x90 header (R81). -/
def rxOptions (h : Vector Byte 11) : Byte := h[10]

/-- `tx_hdr` with an AT command request laid out at offsets 0 to 3 (R76). -/
def atHeader (old : Vector Byte 14) (id cmd0 cmd1 : Byte) : Vector Byte 14 :=
  (((old.set 0 0x08).set 1 id).set 2 cmd0).set 3 cmd1

/-- `tx_hdr` with a transmit request laid out (R77). -/
def transmitHeader (id : Byte) (addr64 : U64) (addr16 : U16) (radius options : Byte) : Vector Byte 14 :=
  #v[0x10, id,
     wireByte64 addr64 0, wireByte64 addr64 1, wireByte64 addr64 2, wireByte64 addr64 3,
     wireByte64 addr64 4, wireByte64 addr64 5, wireByte64 addr64 6, wireByte64 addr64 7,
     hiByte addr16, loByte addr16, radius, options]

/-- Header length plus payload length, as a number (R132, R133). -/
def frameLength (hdrLen : Byte) (plen : U16) : Nat := hdrLen.toNat + plen.toNat

/-- The numeric code of `tx_state` (R22). -/
def TxState.code : TxState → BitVec 3
  | .idle => 0 | .frameMark => 1 | .length1 => 2 | .length2 => 3 | .header => 4 | .data => 5 | .checksum => 6

/-- The numeric code of `rx_state` (R27). -/
def RxState.code : RxState → BitVec 4
  | .frameMark => 0 | .length1 => 1 | .length2 => 2 | .frameType => 3 | .modemStatus => 4
  | .transmitStatus => 5 | .atResponse => 6 | .data => 7 | .dataRequested => 8

/-- The numeric code of `expect` (R34). -/
def Expect.code : Expect → BitVec 2
  | .none => 0 | .atResponse => 1 | .transmitStatus => 2

/-- The numeric code of `assoc` (R40). -/
def Assoc.code : Assoc → BitVec 2
  | .unknown => 0 | .associated => 1 | .notAssociated => 2

/-- The numeric code of `wait` (R44). -/
def WaitCond.code : WaitCond → BitVec 2
  | .none => 0 | .awaitingIdleAndResponse => 1 | .awaitingSessionClear => 2

/-- The numeric code of `task_op` (R45). -/
def TaskOp.code : TaskOp → BitVec 2
  | .noOp => 0 | .submitWait => 1 | .recvCopy => 2 | .recvWait => 3

/-- The op code of a task command (R87), as `FLT_BUSY` records it (R161). -/
def TaskCommand.code : TaskCommand → BitVec 3
  | .submitAt => 0b010 | .submitTx => 0b011 | .receive => 0b100 | .assocRead => 0b101

/-- The code of a model fault (R161). -/
def FaultCode.code : FaultCode → Nat
  | .busy _ => 1 | .tooLong _ => 2 | .mem _ => 3 | .badOp _ => 4

end Sys2Proof.Machine
end

