-- ==== Sys2Proof/Machine/Dispatcher.lean ====
section
/-! DEFINITION. The Request Dispatcher: SUBMIT_AT, SUBMIT_TX, the outgoing frame-type rows, and SUBMIT's
phase W (spec/42_dispatcher.md R132 to R143, spec/30_encoding.md R76, R77), and the reserved op codes (R89). -/

namespace Sys2Proof.Machine

/-- The Transmitter set up for an AT command request with the current `seq_id` (R76, R132). -/
def State.loadAtCommand (s : State) (d : AtRecord) : State :=
  { s with tx := { s.tx with
      hdr := atHeader s.tx.hdr s.corr.seqId d.cmd0 d.cmd1, hdrLen := 4,
      pptr := d.outPtr, plen := d.outLen, flen := 4 + d.outLen, idx := 0 } }

/-- The Transmitter set up for a transmit request with the current `seq_id` (R77, R133). -/
def State.loadTransmitRequest (s : State) (d : TxRecord) : State :=
  { s with tx := { s.tx with
      hdr := transmitHeader s.corr.seqId d.addr64 d.addr16 s.params.txRadius s.params.txOptions, hdrLen := 14,
      pptr := d.dataPtr, plen := d.dataLen, flen := 14 + d.dataLen, idx := 0 } }

/-- `s.seq_id <- next_id(s.seq_id)` (R134). -/
def State.issueId (s : State) : State := { s with corr := { s.corr with seqId := nextId s.corr.seqId } }

/-- The end of phase A: the request is recorded, the expectation set, the frame started, the transport
kicked, and the task suspended (R132, R133, R136). -/
def State.startRequest (s : State) (q : ReqRef) (e : Expect) : State :=
  { s with
    corr := { s.corr with req := some q, expect := e },
    tx := { s.tx with state := .frameMark },
    task := { s.task with wait := .awaitingIdleAndResponse, op := .submitWait } }.report .kick

/-- The tests of a SUBMIT, before any write (R161, R170): busy first, then the frame's length. -/
def State.submitChecks (s : State) (c : TaskCommand) (len : Nat) (k : Res) : Res :=
  if s.task.op ≠ .noOp ∨ s.tx.state ≠ .idle then .raise (.busy c)
  else if 0xFFFF < len then .raise (.tooLong len)
  else k

/-- SUBMIT_AT, phase A (R132). -/
def State.submitAtBody (d : Ref) (s : State) : Res :=
  s.submitChecks .submitAt (frameLength 4 (s.atRecord d).outLen)
    (.ok ((s.issueId.loadAtCommand (s.atRecord d)).startRequest (.atCommand d) .atResponse))

/-- SUBMIT_TX, phase A (R133). -/
def State.submitTxBody (d : Ref) (s : State) : Res :=
  s.submitChecks .submitTx (frameLength 14 (s.txRecord d).dataLen)
    (.ok ((s.issueId.loadTransmitRequest (s.txRecord d)).startRequest (.transmitData d) .transmitStatus))

/-- SUBMIT, phase W (R137, R138): enabled when the frame is sent and the expectation cleared. -/
def State.submitPhaseW (s : State) : Res :=
  if s.submitDone then
    match s.corr.req with
    | none => .stop .noRequest
    | some q =>
      .ok ({ s with
        task := { s.task with wait := .none, op := .noOp },
        corr := { s.corr with req := none } }.report (.submitReturned (s.requestResult q)))
  else .ok s

/-- SUBMIT_AT (R132): phase A is one critical section (R135). -/
def execSubmitAt (d : Ref) (s : State) : Host.Outcome State Fault Refusal :=
  taskPhase s (s.critical (State.submitAtBody d))

/-- SUBMIT_TX (R133): phase A is one critical section (R135). -/
def execSubmitTx (d : Ref) (s : State) : Host.Outcome State Fault Refusal :=
  taskPhase s (s.critical (State.submitTxBody d))

/-- TX_AT_COMMAND: the header of an AT command request is laid out (R76); a frame that does not fit its
length field is `FLT_TOO_LONG` (R161). -/
def execTxAtCommand (d : Ref) (s : State) : Host.Outcome State Fault Refusal :=
  taskPhase s
    (if 0xFFFF < frameLength 4 (s.atRecord d).outLen then .raise (.tooLong (frameLength 4 (s.atRecord d).outLen))
     else .ok (s.loadAtCommand (s.atRecord d)))

/-- TX_TRANSMIT_REQUEST: the header of a transmit request is laid out (R77); a frame that does not fit its
length field is `FLT_TOO_LONG` (R161). -/
def execTxTransmitRequest (d : Ref) (s : State) : Host.Outcome State Fault Refusal :=
  taskPhase s
    (if 0xFFFF < frameLength 14 (s.txRecord d).dataLen then
      .raise (.tooLong (frameLength 14 (s.txRecord d).dataLen))
     else .ok (s.loadTransmitRequest (s.txRecord d)))

/-- RESERVED_110: op code 0b110 raises `FLT_BAD_OP` (R89). -/
def execReserved110 (s : State) : Host.Outcome State Fault Refusal := taskPhase s (.raise (.badOp 0b110))

/-- RESERVED_111: op code 0b111 raises `FLT_BAD_OP` (R89). -/
def execReserved111 (s : State) : Host.Outcome State Fault Refusal := taskPhase s (.raise (.badOp 0b111))

end Sys2Proof.Machine
end

