-- ==== Sys2Proof/Machine/Receiver.lean ====
section
/-! DEFINITION. The Frame Receiver: PUSH and the rows of the raw byte classes, the received frame types and
the modem statuses (spec/41_receiver.md R103 to R129). -/

namespace Sys2Proof.Machine

/-- `rx_state <- v`. -/
def State.setRxState (s : State) (v : RxState) : State := { s with rx := { s.rx with state := v } }

/-- `discard()` (R122), with its trace label (R160). -/
def State.discard (s : State) (r : DiscardReason) : State := (s.setRxState .frameMark).note r

/-! Raw byte classes (R104 to R107). -/

/-- A raw 0x7E (R105): the frame in progress, if any, is abandoned (R160: `DR_RESYNC` outside FrameMark and
Length1). -/
def State.resync (s : State) : State :=
  let t := { s with rx := { s.rx with state := .length1, esc := false, count := 0, sum := 0 } }
  match s.rx.state with
  | .frameMark => t
  | .length1 => t
  | .length2 => t.note .resync
  | .frameType => t.note .resync
  | .modemStatus => t.note .resync
  | .transmitStatus => t.note .resync
  | .atResponse => t.note .resync
  | .data => t.note .resync
  | .dataRequested => t.note .resync

/-- A raw 0x7D (R106). -/
def State.escapeNext (s : State) : State := { s with rx := { s.rx with esc := true } }

/-- The value of a data byte (R107). -/
def State.unescaped (s : State) (b : Byte) : Byte := if s.rx.esc then escapeMask b else b

/-- The escape flag is used up by a data byte (R107). -/
def State.escapeDone (s : State) : State := { s with rx := { s.rx with esc := false } }

/-! Length and type (R109 to R117). -/

/-- Length1 (R109). -/
def State.lengthHigh (s : State) (v : Byte) : State :=
  { s with rx := { s.rx with len := pair v 0, state := .length2 } }

/-- Length2 (R110). -/
def State.lengthLow (s : State) (v : Byte) : State :=
  let declared := s.rx.len ||| pair 0 v
  if declared = 0 then s.discard .len0
  else { s with rx := { s.rx with len := declared - 1, state := .frameType } }

/-- The type byte starts the sum and the count (R111). -/
def State.startBody (s : State) (v : Byte) : State :=
  { s with rx := { s.rx with type := v, sum := v, count := 0 } }

/-- 0x8A at the type byte (R112, R113). -/
def State.acceptModemStatus (s : State) : State :=
  if s.rx.len.toNat < 1 then s.discard .short else s.setRxState .modemStatus

/-- 0x8B at the type byte (R112, R114). -/
def State.acceptTransmitStatus (s : State) : State :=
  if s.corr.expect ≠ .transmitStatus then s.discard .unexpected
  else if s.rx.len.toNat < 6 then s.discard .short
  else s.setRxState .transmitStatus

/-- 0x88 at the type byte (R112, R115). -/
def State.acceptAtResponse (s : State) : State :=
  if s.corr.expect ≠ .atResponse then s.discard .unexpected
  else if s.rx.len.toNat < 4 then s.discard .short
  else s.setRxState .atResponse

/-- The smaller of two 16-bit lengths (R11). -/
def minLen (a b : U16) : U16 := if a.toNat ≤ b.toNat then a else b

/-- 0x90 at the type byte (R112, R116): to the session's buffer if one is pending, else to scratch. -/
def State.acceptReceivePacket (s : State) : Res :=
  if s.rx.len.toNat < 11 then .ok (s.discard .short)
  else
    let full := s.rx.len - 11
    if s.corr.sessPending then
      match s.corr.sess with
      | none => .stop .noSession
      | some r => .ok { s with rx := { s.rx with full := full, limit := minLen full (s.recvRecord r).cap,
                                                 state := .dataRequested } }
    else .ok { s with rx := { s.rx with full := full, limit := minLen full s.params.scratchCapacity,
                                        state := .data } }

/-- FrameType: the value is the type byte (R111, R113 to R117). -/
def State.typeByte (s : State) (v : Byte) : Res :=
  if v = 0x8A then .ok (s.startBody v).acceptModemStatus
  else if v = 0x8B then .ok (s.startBody v).acceptTransmitStatus
  else if v = 0x88 then .ok (s.startBody v).acceptAtResponse
  else if v = 0x90 then (s.startBody v).acceptReceivePacket
  else .ok ((s.startBody v).discard .type)

/-! Body bytes (R118 to R120). -/

/-- A body byte is summed and counted (R118). -/
def State.countByte (s : State) (v : Byte) : State :=
  { s with rx := { s.rx with sum := s.rx.sum + v, count := s.rx.count + 1 } }

/-- A header byte is stored at its offset (R119). -/
def State.storeHeader (s : State) (v : Byte) : State :=
  { s with rx := { s.rx with hdr := s.rx.hdr.setIfInBounds s.rx.count.toNat v } }

/-- `scratch[j]`. -/
def State.scratchByte (s : State) (j : Nat) : Byte := tableGet unlistedByte s.rx.scratch j

/-- `scratch[j] <- v`. -/
def State.storeScratch (s : State) (j : Nat) (v : Byte) : State :=
  { s with rx := { s.rx with scratch := tableSet unlistedByte s.rx.scratch j v } }

/-- Payload byte j of a frame in Data, stored while `j < rx_limit` (R120). -/
def State.payloadToScratch (s : State) (j : Nat) (v : Byte) : State :=
  if j < s.rx.limit.toNat then s.storeScratch j v else s

/-- Payload byte j of a frame in DataRequested, stored while `j < rx_limit` (R120). -/
def State.payloadToSession (s : State) (j : Nat) (v : Byte) : Res :=
  if j < s.rx.limit.toNat then
    match s.corr.sess with
    | none => .stop .noSession
    | some r =>
      match s.memWrite ((s.recvRecord r).bufPtr + j) v with
      | none => .raise (.mem ((s.recvRecord r).bufPtr + j))
      | some t => .ok t
  else .ok s

/-- Where body byte `rx_count` goes when it is past the header of `h` bytes (R120): a 0x90 payload is
delivered; the bytes after the other headers are not stored. -/
def State.payloadByte (s : State) (h : Nat) (v : Byte) : Res :=
  match s.rx.state with
  | .data => .ok (s.payloadToScratch (s.rx.count.toNat - h) v)
  | .dataRequested => s.payloadToSession (s.rx.count.toNat - h) v
  | .frameMark | .length1 | .length2 | .frameType | .modemStatus | .transmitStatus | .atResponse => .ok s

/-- A body byte, the checksum excepted (R118 to R120). -/
def State.bodyByte (s : State) (v : Byte) : Res :=
  match headerSize s.rx.type with
  | none => .stop (.headerSizeUndefined s.rx.type)
  | some h =>
    if s.rx.count.toNat < h then .ok ((s.storeHeader v).countByte v)
    else (s.payloadByte h v).andThen fun t => .ok (t.countByte v)

/-! Completions (R123 to R128). -/

/-- Modem status 0x02 (R124). -/
def State.joined (s : State) : State := { s with corr := { s.corr with assoc := .associated } }

/-- Modem status 0x03 (R124): a pending session is aborted, its success flag stays as it is. -/
def State.left (s : State) : State :=
  { s with corr := { s.corr with assoc := .notAssociated, sessPending := false } }

/-- Completion of 0x8A (R124); another status changes nothing. -/
def State.completeModemStatus (s : State) : State :=
  if modemStatusValue s.rx.hdr = 0x02 then s.joined
  else if modemStatusValue s.rx.hdr = 0x03 then s.left
  else s

/-- `s.expect <- None`. -/
def State.clearExpect (s : State) : State := { s with corr := { s.corr with expect := .none } }

/-- Completion of 0x8B (R125): no id check. -/
def State.completeTransmitStatus (s : State) : Res :=
  match s.corr.req with
  | none => .stop .noRequest
  | some q => .ok (s.setRequestResult q (transmitDelivery s.rx.hdr)).clearExpect

/-- The in_buffer of a cleared request becomes drawn bytes (R126). -/
def State.drawInBuffer (s : State) : ReqRef → Res
  | .atCommand d => State.drawInto (s.atRecord d).inCap.toNat (s.atRecord d).inPtr s
  | .transmitData _ => .stop .noInBuffer

/-- Completion of 0x88 (R126): `result` always, `expect` only on an id match. -/
def State.completeAtResponse (s : State) : Res :=
  match s.corr.req with
  | none => .stop .noRequest
  | some q =>
    let t := s.setRequestResult q (atResponseStatus s.rx.hdr)
    if atResponseId s.rx.hdr = s.corr.seqId then t.clearExpect.drawInBuffer q else .ok t

/-- Completion of 0x90 in DataRequested (R127). -/
def State.completeDelivery (s : State) : Res :=
  match s.corr.sess with
  | none => .stop .noSession
  | some r =>
    let t := s.setRecvRecord r
      { s.recvRecord r with
        addr64 := rxAddr64 s.rx.hdr, addr16 := rxAddr16 s.rx.hdr, length := s.rx.limit }
    .ok { t with corr := { t.corr with sessSuccess := true, sessPending := false } }

/-- `complete(rx_state)` (R123). Outside the body states there is nothing to complete. -/
def State.complete (s : State) : Res :=
  match s.rx.state with
  | .modemStatus => .ok s.completeModemStatus
  | .transmitStatus => s.completeTransmitStatus
  | .atResponse => s.completeAtResponse
  | .dataRequested => s.completeDelivery
  | .data => .ok s
  | .frameMark | .length1 | .length2 | .frameType => .ok s

/-- The checksum byte (R121). -/
def State.checksumByte (s : State) (v : Byte) : Res :=
  if checksumValid s.rx.sum v then s.complete.andThen fun t => .ok (t.setRxState .frameMark)
  else .ok (s.discard .checksum)

/-- A value in a body state (R118, R121). -/
def State.bodyValue (s : State) (v : Byte) : Res :=
  if s.rx.count.toNat < s.rx.len.toNat then s.bodyByte v else s.checksumByte v

/-! The step. -/

/-- A value, after the raw byte classes and unescaping (R108 to R121). -/
def State.rxValue (s : State) (v : Byte) : Res :=
  match s.rx.state with
  | .frameMark => .ok s
  | .length1 => .ok (s.lengthHigh v)
  | .length2 => .ok (s.lengthLow v)
  | .frameType => s.typeByte v
  | .modemStatus => s.bodyValue v
  | .transmitStatus => s.bodyValue v
  | .atResponse => s.bodyValue v
  | .data => s.bodyValue v
  | .dataRequested => s.bodyValue v

/-- A raw data byte (R107). -/
def State.dataByte (s : State) (b : Byte) : Res := s.escapeDone.rxValue (s.unescaped b)

/-- The body of PUSH (R103): the checks on the raw byte come first, in this order. -/
def State.pushBody (s : State) (b : Byte) : Res :=
  if isFlow b then .ok s
  else if b = 0x7E then .ok s.resync
  else if b = 0x7D then .ok s.escapeNext
  else s.dataByte b

/-- PUSH (R103). -/
def execPush (b : Byte) (s : State) : Host.Outcome State Fault Refusal := deliver (.push b) s (s.pushBody b)

/-- RX_FLOW_11: a raw 0x11 is dropped (R104). -/
def execRxFlow11 (s : State) : Host.Outcome State Fault Refusal := deliver (.push 0x11) s (.ok s)

/-- RX_FLOW_13: a raw 0x13 is dropped (R104). -/
def execRxFlow13 (s : State) : Host.Outcome State Fault Refusal := deliver (.push 0x13) s (.ok s)

/-- RX_DELIM_7E: a raw 0x7E resynchronises (R105). -/
def execRxDelim7e (s : State) : Host.Outcome State Fault Refusal := deliver (.push 0x7E) s (.ok s.resync)

/-- RX_ESC_7D: a raw 0x7D sets the escape flag (R106). -/
def execRxEsc7d (s : State) : Host.Outcome State Fault Refusal := deliver (.push 0x7D) s (.ok s.escapeNext)

/-- RX_DATA: any other raw byte (R107). -/
def execRxData (b : Byte) (s : State) : Host.Outcome State Fault Refusal := deliver (.push b) s (s.dataByte b)

/-- RX_AT_RESPONSE: the value 0x88 reaches the Receiver; in FrameType it is the type byte (R115). -/
def execRxAtResponse (s : State) : Host.Outcome State Fault Refusal := taskPhase s (s.rxValue 0x88)

/-- RX_MODEM_STATUS: the value 0x8A reaches the Receiver; in FrameType it is the type byte (R113). -/
def execRxModemStatus (s : State) : Host.Outcome State Fault Refusal := taskPhase s (s.rxValue 0x8A)

/-- RX_TRANSMIT_STATUS: the value 0x8B reaches the Receiver; in FrameType it is the type byte (R114). -/
def execRxTransmitStatus (s : State) : Host.Outcome State Fault Refusal := taskPhase s (s.rxValue 0x8B)

/-- RX_RECEIVE_PACKET: the value 0x90 reaches the Receiver; in FrameType it is the type byte (R116). -/
def execRxReceivePacket (s : State) : Host.Outcome State Fault Refusal := taskPhase s (s.rxValue 0x90)

/-- RX_OTHER_TYPE: another value reaches the Receiver; in FrameType it is the type byte (R117). -/
def execRxOtherType (v : Byte) (s : State) : Host.Outcome State Fault Refusal := taskPhase s (s.rxValue v)

/-- MS_JOINED: the completion of a modem status 0x02 (R124). -/
def execMsJoined (s : State) : Host.Outcome State Fault Refusal := taskPhase s (.ok s.joined)

/-- MS_LEFT: the completion of a modem status 0x03 (R124). -/
def execMsLeft (s : State) : Host.Outcome State Fault Refusal := taskPhase s (.ok s.left)

/-- MS_OTHER: the completion of any other modem status changes nothing (R124). -/
def execMsOther (_st : Byte) (s : State) : Host.Outcome State Fault Refusal := taskPhase s (.ok s)

end Sys2Proof.Machine
end

