-- ==== Sys2Proof/Machine/Session.lean ====
section
/-! DEFINITION. The Receive Session and the Association Tracker: RECEIVE, its phases B and W, and ASSOC_READ
(spec/43_receive_session.md R144 to R155). -/

namespace Sys2Proof.Machine

/-- `j`: the payload bytes the frame in progress has consumed (R148). -/
def State.payloadSeen (s : State) : Nat := if 11 < s.rx.count.toNat then s.rx.count.toNat - 11 else 0

/-- `k`: the bytes the caller's buffer must get (R147, R148); 0 where there is nothing to re-point. -/
def State.copyLength (s : State) (cap : U16) : Nat :=
  if s.rx.state = .data then min s.payloadSeen cap.toNat else 0

/-- `c`: how many of them scratch holds (R148). -/
def State.copyFromScratch (s : State) (cap : U16) : Nat :=
  if s.rx.state = .data then min (s.copyLength cap) s.rx.limit.toNat else 0

/-- The re-point of a frame in Data at the caller's buffer (R147, R148). -/
def State.repoint (s : State) (cap : U16) : State :=
  if s.rx.state = .data then
    { s with rx := { s.rx with limit := minLen s.rx.full cap, state := .dataRequested } }
  else s

/-- The session is recorded and pending, and the copy set up (R149, R144). -/
def State.openSession (s : State) (r : Ref) (k c : Nat) : State :=
  { s with
    corr := { s.corr with sess := some r, sessSuccess := false, sessPending := true },
    task := { s.task with
      copyK := BitVec.ofNat 16 k, copyC := BitVec.ofNat 16 c, copyI := 0,
      op := if 0 < k then .recvCopy else .recvWait,
      wait := if 0 < k then s.task.wait else .awaitingSessionClear } }

/-- RECEIVE, phase A (R144): busy, then not associated (R146), then the session. -/
def State.receiveBody (r : Ref) (s : State) : Res :=
  if s.task.op ≠ .noOp then .raise (.busy .receive)
  else if !s.associated then .ok (s.report (.receiveReturned false))
  else
    .ok ((s.repoint (s.recvRecord r).cap).openSession r
      (s.copyLength (s.recvRecord r).cap) (s.copyFromScratch (s.recvRecord r).cap))

/-- The byte phase B writes (R148, R150): from scratch, or drawn where scratch lost it. -/
def State.copyByte (s : State) : Byte :=
  if s.task.copyI.toNat < s.task.copyC.toNat then s.scratchByte s.task.copyI.toNat
  else Config.freeByte s.draws

/-- Phase B's draw is used up when a byte was drawn (R14). -/
def State.copyDrawn (s : State) : State :=
  if s.task.copyI.toNat < s.task.copyC.toNat then s else { s with draws := s.draws + 1 }

/-- The task's bookkeeping after one copied byte (R144, phase B). -/
def TaskRegs.afterCopy (t : TaskRegs) : TaskRegs :=
  if t.copyI + 1 = t.copyK then
    { t with copyI := t.copyI + 1, op := .recvWait, wait := .awaitingSessionClear }
  else { t with copyI := t.copyI + 1 }

/-- RECEIVE, phase B: one byte (R144, R150). -/
def State.receivePhaseB (s : State) : Res :=
  match s.corr.sess with
  | none => .stop .noSession
  | some r =>
    match s.memWrite ((s.recvRecord r).bufPtr + s.task.copyI.toNat) s.copyByte with
    | none => .raise (.mem ((s.recvRecord r).bufPtr + s.task.copyI.toNat))
    | some t => .ok { t.copyDrawn with task := t.task.afterCopy }

/-- RECEIVE, phase W (R144, R151, R152). -/
def State.receivePhaseW (s : State) : Res :=
  if s.sessionClear then
    .ok ({ s with
      task := { s.task with wait := .none, op := .noOp },
      corr := { s.corr with sess := none } }.report (.receiveReturned s.corr.sessSuccess))
  else .ok s

/-- ASSOC_READ (R145). -/
def State.assocReadBody (s : State) : Res :=
  if s.task.op ≠ .noOp then .raise (.busy .assocRead) else .ok (s.report (.assocReturned s.associated))

/-- RECEIVE (R144): phase A is one critical section. -/
def execReceive (r : Ref) (s : State) : Host.Outcome State Fault Refusal :=
  taskPhase s (s.critical (State.receiveBody r))

/-- ASSOC_READ (R145): one critical section. -/
def execAssocRead (s : State) : Host.Outcome State Fault Refusal := taskPhase s (s.critical State.assocReadBody)

end Sys2Proof.Machine
end

