-- ==== Sys2Proof/Machine/Transmitter.lean ====
section
/-! DEFINITION. The Frame Transmitter: PULL and the escape-pair rows (spec/40_transmitter.md R91 to R100). -/

namespace Sys2Proof.Machine

/-- Send an escape pair's first byte and hold its second (R99). -/
def State.sendEscaped (s : State) (second : Byte) : State :=
  { s with tx := { s.tx with escPending := true, escByte := second } }.emit (some 0x7D)

/-- `tx_esc(raw)` (R99). -/
def State.txEsc (s : State) (raw : Byte) : State :=
  if isSpecial raw then s.sendEscaped (escapeMask raw) else s.emit (some raw)

/-- PULL with a held escape byte (R92). -/
def State.pullHeld (s : State) : State :=
  { s with tx := { s.tx with escPending := false } }.emit (some s.tx.escByte)

/-- PULL in FrameMark (R94). -/
def State.pullFrameMark (s : State) : State :=
  { s with tx := { s.tx with sum := 0, state := .length1 } }.emit (some 0x7E)

/-- PULL in Length1 (R95). -/
def State.pullLength1 (s : State) : State :=
  { s with tx := { s.tx with state := .length2 } }.txEsc (hiByte s.tx.flen)

/-- PULL in Length2 (R95). -/
def State.pullLength2 (s : State) : State :=
  { s with tx := { s.tx with idx := 0, state := .header } }.txEsc (loByte s.tx.flen)

/-- The Transmitter's fields after header byte `raw` is produced (R96). -/
def TxRegs.afterHeaderByte (t : TxRegs) (raw : Byte) : TxRegs :=
  if t.idx + 1 = t.hdrLen.setWidth 16 then
    { t with sum := t.sum + raw, idx := 0, state := if 0 < t.plen.toNat then .data else .checksum }
  else { t with sum := t.sum + raw, idx := t.idx + 1 }

/-- PULL in Header (R96). -/
def State.pullHeader (s : State) : Res :=
  match s.tx.hdr[s.tx.idx.toNat]? with
  | none => .stop (.headerIndexOutside s.tx.idx.toNat)
  | some raw => .ok ({ s with tx := s.tx.afterHeaderByte raw }.txEsc raw)

/-- The Transmitter's fields after payload byte `raw` is produced (R97). -/
def TxRegs.afterPayloadByte (t : TxRegs) (raw : Byte) : TxRegs :=
  if t.idx + 1 = t.plen then { t with sum := t.sum + raw, idx := t.idx + 1, state := .checksum }
  else { t with sum := t.sum + raw, idx := t.idx + 1 }

/-- PULL in Data: the payload byte is read at this call (R97, R67). -/
def State.pullData (s : State) : Res :=
  match s.memRead (s.tx.pptr + s.tx.idx.toNat) with
  | none => .raise (.mem (s.tx.pptr + s.tx.idx.toNat))
  | some raw => .ok ({ s with tx := s.tx.afterPayloadByte raw }.txEsc raw)

/-- PULL in Checksum (R98). -/
def State.pullChecksum (s : State) : State :=
  { s with tx := { s.tx with state := .idle } }.txEsc (checksumOf s.tx.sum)

/-- The body of PULL (R91). -/
def State.pullBody (s : State) : Res :=
  if s.tx.escPending then .ok s.pullHeld
  else
    match s.tx.state with
    | .idle => .ok (s.emit none)
    | .frameMark => .ok s.pullFrameMark
    | .length1 => .ok s.pullLength1
    | .length2 => .ok s.pullLength2
    | .header => s.pullHeader
    | .data => s.pullData
    | .checksum => .ok s.pullChecksum

/-- PULL (R91). -/
def execPull (s : State) : Host.Outcome State Fault Refusal := deliver .pull s s.pullBody

/-- ESC_7E: PULL sends the special value 0x7E (R72, R99). -/
def execEsc7e (s : State) : Host.Outcome State Fault Refusal := taskPhase s (.ok (s.txEsc 0x7E))

/-- ESC_7D: PULL sends the special value 0x7D (R72, R99). -/
def execEsc7d (s : State) : Host.Outcome State Fault Refusal := taskPhase s (.ok (s.txEsc 0x7D))

/-- ESC_11: PULL sends the special value 0x11 (R72, R99). -/
def execEsc11 (s : State) : Host.Outcome State Fault Refusal := taskPhase s (.ok (s.txEsc 0x11))

/-- ESC_13: PULL sends the special value 0x13 (R72, R99). -/
def execEsc13 (s : State) : Host.Outcome State Fault Refusal := taskPhase s (.ok (s.txEsc 0x13))

end Sys2Proof.Machine
end

