-- ==== Sys2Proof/Machine/Environment.lean ====
section
/-! DEFINITION. What moves next: the transport's held events, the operations the environment hands over, the
scheduler's resumption of the task, and the caller's own writes (spec/60_exceptions.md R163 to R178,
spec/20_memory.md R62). -/

namespace Sys2Proof.Machine

/-- The operation that delivers a byte event (R166). -/
def ByteEvent.instr : ByteEvent → Instr
  | .push b => .push b
  | .pull => .pull

/-- The phase of the task that a resumption runs, if it is enabled (R45, R174); a resumption that finds its
predicate false, or no command, changes nothing (log 11). -/
def State.resumeTask (s : State) : Res :=
  match s.task.op with
  | .noOp => .ok s
  | .submitWait => s.submitPhaseW
  | .recvCopy => s.receivePhaseB
  | .recvWait => s.receivePhaseW

/-- A write of the caller to its memory (R50); no byte at an address that does not exist. It may land while a
call is outstanding too, and is then seen on the wire (R67, R188; log 13). -/
def State.callerWrite (s : State) (a : Nat) (v : Byte) : State := (s.memWrite a v).getD s

/-- What the machine does next. -/
inductive Fetched where
  /-- the environment has no move -/
  | idle
  /-- an instruction runs from this state -/
  | instr (i : Instr) (s : State)
  /-- a move that is no instruction, with its outcome -/
  | done (o : Host.Outcome State Fault Refusal)

/-- A move of the environment, taken from its list (log 5). -/
def State.runInput (s : State) : Input → Fetched
  | .operation bytes =>
    match decodeOperation bytes with
    | .ok i => .instr i s
    | .error e => .done (.refused (.undecodable e))
  | .resume => .done (settle s s.resumeTask)
  | .callerByte a v => .done (.next (s.callerWrite a v))
  | .callerAt d rec => .done (.next (s.setAtRecord d rec))
  | .callerTx d rec => .done (.next (s.setTxRecord d rec))
  | .callerRecv d rec => .done (.next (s.setRecvRecord d rec))

/-- The environment's own moves, when no held event comes first. -/
def State.nextInput (s : State) : Fetched :=
  match s.inputs with
  | [] => .idle
  | i :: rest => { s with inputs := rest }.runInput i

/-- What moves next: nothing in a faulted block (R161); a held byte event as soon as `ie` is true, oldest
first (R167); else the environment's next move. -/
def State.fetch (s : State) : Fetched :=
  match s.fault with
  | some f => .done (.fault (.halted f))
  | none =>
    match s.ie, s.held with
    | true, e :: rest => .instr e.instr { s with held := rest }
    | true, [] => s.nextInput
    | false, _ => s.nextInput

/-- The receiver stands at the type byte of a frame, so that the next value is one (R111). -/
def State.atTypeByte (s : State) : State := { s with rx := { s.rx with state := .frameType, esc := false } }

/-- Where the bytes of an instruction are placed so that the very next step runs it (log 16): an operation
as it is; a raw byte as the operand of PUSH; a received type as the operand of PUSH with the Receiver at the
type byte; an outgoing type as the SUBMIT that lays it out. -/
def State.place (s : State) (bytes : List Byte) : Instr → State
  | .push b => { s with held := [], inputs := .operation (encode (.push b)) :: s.inputs }
  | .pull => { s with held := [], inputs := .operation (encode .pull) :: s.inputs }
  | .submitAt d => { s with held := [], inputs := .operation (encode (.submitAt d)) :: s.inputs }
  | .submitTx d => { s with held := [], inputs := .operation (encode (.submitTx d)) :: s.inputs }
  | .receive r => { s with held := [], inputs := .operation (encode (.receive r)) :: s.inputs }
  | .assocRead => { s with held := [], inputs := .operation (encode .assocRead) :: s.inputs }
  | .reserved110 => { s with held := [], inputs := .operation (encode .reserved110) :: s.inputs }
  | .reserved111 => { s with held := [], inputs := .operation (encode .reserved111) :: s.inputs }
  | .rxFlow11 => { s with held := [], inputs := .operation [0, 0x11] :: s.inputs }
  | .rxFlow13 => { s with held := [], inputs := .operation [0, 0x13] :: s.inputs }
  | .rxDelim7e => { s with held := [], inputs := .operation [0, 0x7E] :: s.inputs }
  | .rxEsc7d => { s with held := [], inputs := .operation [0, 0x7D] :: s.inputs }
  | .rxData b => { s with held := [], inputs := .operation [0, b] :: s.inputs }
  | .rxAtResponse => { s.atTypeByte with held := [], inputs := .operation [0, 0x88] :: s.inputs }
  | .rxModemStatus => { s.atTypeByte with held := [], inputs := .operation [0, 0x8A] :: s.inputs }
  | .rxTransmitStatus => { s.atTypeByte with held := [], inputs := .operation [0, 0x8B] :: s.inputs }
  | .rxReceivePacket => { s.atTypeByte with held := [], inputs := .operation [0, 0x90] :: s.inputs }
  | .rxOtherType v => { s.atTypeByte with held := [], inputs := .operation [0, v] :: s.inputs }
  | .txAtCommand d => { s with held := [], inputs := .operation (encode (.submitAt d)) :: s.inputs }
  | .txTransmitRequest d => { s with held := [], inputs := .operation (encode (.submitTx d)) :: s.inputs }
  | .msJoined | .msLeft | .msOther _ | .esc7e | .esc7d | .esc11 | .esc13 =>
    { s with held := [], inputs := .operation bytes :: s.inputs }

/-- The state with the table word `w` of `nbits` bits placed for the next step. -/
def State.placeWord (s : State) (nbits w : Nat) : State :=
  match decodeTableWord nbits w with
  | none => { s with held := [], inputs := .operation (wordBytes nbits w) :: s.inputs }
  | some i => s.place (wordBytes nbits w) i

end Sys2Proof.Machine
end

