-- ==== Sys2Proof/Machine/Dispatch.lean ====
section
/-! DEFINITION. exec: one arm per constructor of Instr, each one call of its meaning. -/

namespace Sys2Proof.Machine

def exec (i : Instr) (s : State) : Host.Outcome State Fault Refusal :=
  match i with
  | .push b => Sys2Proof.Machine.execPush b s
  | .pull => Sys2Proof.Machine.execPull s
  | .submitAt d => Sys2Proof.Machine.execSubmitAt d s
  | .submitTx d => Sys2Proof.Machine.execSubmitTx d s
  | .receive r => Sys2Proof.Machine.execReceive r s
  | .assocRead => Sys2Proof.Machine.execAssocRead s
  | .reserved110 => Sys2Proof.Machine.execReserved110 s
  | .reserved111 => Sys2Proof.Machine.execReserved111 s
  | .rxFlow11 => Sys2Proof.Machine.execRxFlow11 s
  | .rxFlow13 => Sys2Proof.Machine.execRxFlow13 s
  | .rxDelim7e => Sys2Proof.Machine.execRxDelim7e s
  | .rxEsc7d => Sys2Proof.Machine.execRxEsc7d s
  | .rxData b => Sys2Proof.Machine.execRxData b s
  | .rxAtResponse => Sys2Proof.Machine.execRxAtResponse s
  | .rxModemStatus => Sys2Proof.Machine.execRxModemStatus s
  | .rxTransmitStatus => Sys2Proof.Machine.execRxTransmitStatus s
  | .rxReceivePacket => Sys2Proof.Machine.execRxReceivePacket s
  | .rxOtherType v => Sys2Proof.Machine.execRxOtherType v s
  | .txAtCommand d => Sys2Proof.Machine.execTxAtCommand d s
  | .txTransmitRequest d => Sys2Proof.Machine.execTxTransmitRequest d s
  | .msJoined => Sys2Proof.Machine.execMsJoined s
  | .msLeft => Sys2Proof.Machine.execMsLeft s
  | .msOther st => Sys2Proof.Machine.execMsOther st s
  | .esc7e => Sys2Proof.Machine.execEsc7e s
  | .esc7d => Sys2Proof.Machine.execEsc7d s
  | .esc11 => Sys2Proof.Machine.execEsc11 s
  | .esc13 => Sys2Proof.Machine.execEsc13 s

end Sys2Proof.Machine
end

