-- ==== Sys2Proof/Machine/Step.lean ====
section
/-! DEFINITION. One step of the machine, and the placing of a table word for the next step. -/

namespace Sys2Proof.Machine

/-- One atomic step (R57, R58, R62): what `State.fetch` says moves next. With no move of the environment the
block stays as it is: it has no clock (R7, R198). -/
def step (s : State) : Host.Outcome State Fault Refusal :=
  match s.fetch with
  | .idle => .next s
  | .instr i t => exec i t
  | .done o => o

/-- `s` with the instruction of a table word placed so that the very next step runs it (log 16). -/
def State.withFetchWord (s : State) (nbits w : Nat) : State := s.placeWord nbits w

end Sys2Proof.Machine
end

