-- ==== Sys2Proof/Machine/Frame.lean ====
section
/-! DEFINITION. The wire frame as a function of its body, and operation scripts: what the rules about whole
frames and whole scripts are stated with (spec/30_encoding.md R69 to R73, R90). -/

namespace Sys2Proof.Machine

/-- S of R71: the sum of the body values, modulo 256. -/
def bodySum : List Byte → Byte
  | [] => 0
  | v :: vs => v + bodySum vs

/-- How a value is sent (R72). -/
def wireValue (v : Byte) : List Byte := if isSpecial v then [0x7D, escapeMask v] else [v]

/-- The values after the start delimiter, before escaping (R69). -/
def frameValues (body : List Byte) : List Byte :=
  hiByte (BitVec.ofNat 16 body.length) :: loByte (BitVec.ofNat 16 body.length) ::
    (body ++ [checksumOf (bodySum body)])

/-- The raw bytes of the frame of a body of at most 0xFFFF bytes (R69, R72). -/
def wireFrame (body : List Byte) : List Byte := 0x7E :: (frameValues body).flatMap wireValue

/-- The payload bytes at `ptr .. ptr + n - 1` (R51). -/
def payloadAt (m : List Host.Cell) (ptr : Nat) (n : Nat) : List Byte :=
  (List.range n).map fun i => Memory.read m (ptr + i)

/-- The body the Transmitter is set up to send (R26). -/
def State.txBody (s : State) : List Byte :=
  s.tx.hdr.toList.take s.tx.hdrLen.toNat ++ payloadAt s.mem s.tx.pptr s.tx.plen.toNat

end Sys2Proof.Machine
end

