-- ==== Sys2Proof/Machine/Script.lean ====
section
/-! DEFINITION. Operation scripts (spec/30_encoding.md R90): one operation after the other, stopping at the
first that does not come to a next state; and runs of steps. -/

namespace Sys2Proof.Machine

/-- Run operations in order. -/
def runOps : List Instr → State → Host.Outcome State Fault Refusal
  | [], s => .next s
  | i :: rest, s =>
    match exec i s with
    | .next t => runOps rest t
    | .fault r => .fault r
    | .refused r => .refused r

/-- `PUSH <bytes>`: one PUSH per byte, in order (R90). -/
def pushAll (bytes : List Byte) : List Instr := bytes.map Instr.push

/-- `n` PULLs. -/
def pulls (n : Nat) : List Instr := List.replicate n Instr.pull

/-- `n` steps, stopping at the first that does not come to a next state. -/
def runSteps : Nat → State → Host.Outcome State Fault Refusal
  | 0, s => .next s
  | n + 1, s =>
    match step s with
    | .next t => runSteps n t
    | .fault r => .fault r
    | .refused r => .refused r

end Sys2Proof.Machine
end

