-- ==== Sys2Proof/Safety.lean ====
section
/-! DEFINITION. What the claims are stated with: when the block takes a step of each context, and the invariant
of its runs. -/

namespace Sys2Proof.Machine

/-- A task phase or command can run: no fault has been recorded (R161). -/
def State.Live (s : State) : Prop := s.fault = none

/-- A byte event is delivered: no fault, and callbacks are not masked (R161, R167). -/
def State.Ready (s : State) : Prop := s.fault = none ∧ s.ie = true

/-- A raw byte of the data class of R85. -/
def IsData (b : Byte) : Prop := b ≠ 0x11 ∧ b ≠ 0x13 ∧ b ≠ 0x7E ∧ b ≠ 0x7D

/-- The transport delivers the raw data byte `b`, whose value is `v` (R107). -/
def State.Receives (s : State) (b v : Byte) : Prop :=
  s.Ready ∧ IsData b ∧ v = if s.rx.esc then b ^^^ 0x20 else b

/-- The environment's next move is `i`, and no held byte event comes before it (R62, R167). -/
def State.Takes (s : State) (i : Input) (rest : List Input) : Prop :=
  s.fault = none ∧ (s.held = [] ∨ s.ie = false) ∧ s.inputs = i :: rest

/-- The Receiver is past the type byte of a frame (R28). -/
def RxState.IsBody : RxState → Prop
  | .modemStatus | .transmitStatus | .atResponse | .data | .dataRequested => True
  | .frameMark | .length1 | .length2 | .frameType => False

/-- The type byte of the frames of a body state (R113 to R116). -/
def RxState.typeByte : RxState → Option Byte
  | .modemStatus => some 0x8A
  | .transmitStatus => some 0x8B
  | .atResponse => some 0x88
  | .data => some 0x90
  | .dataRequested => some 0x90
  | .frameMark | .length1 | .length2 | .frameType => none

/-- The Transmitter's part of the invariant. -/
structure TxInv (t : TxRegs) : Prop where
  /-- only the two outgoing types, each with its header length (R84, R26) -/
  header : t.state ≠ .idle → (t.hdr[0] = 0x08 ∧ t.hdrLen = 4) ∨ (t.hdr[0] = 0x10 ∧ t.hdrLen = 14)
  /-- the length field is the length of the body (R26) -/
  length : t.state ≠ .idle → t.flen.toNat = frameLength t.hdrLen t.plen
  /-- in Header the index is inside the header (R96) -/
  headerIndex : t.state = .header → t.idx.toNat < t.hdrLen.toNat
  /-- in Data the index is inside the payload (R97) -/
  dataIndex : t.state = .data → t.idx.toNat < t.plen.toNat
  /-- a held byte is the second byte of an escape pair (R72, R73) -/
  escape : t.escPending = true → t.escByte = 0x5E ∨ t.escByte = 0x5D ∨ t.escByte = 0x31 ∨ t.escByte = 0x33

/-- The Receiver's part of the invariant. -/
structure RxInv (s : State) : Prop where
  /-- a body state is the state of its type byte (R111) -/
  type : ∀ b, s.rx.state.typeByte = some b → s.rx.type = b
  /-- the whole header fits (R112) -/
  header : ∀ b h, s.rx.state.typeByte = some b → headerSize b = some h → h ≤ s.rx.len.toNat
  /-- the count never passes the body (R28) -/
  count : s.rx.state.IsBody → s.rx.count.toNat ≤ s.rx.len.toNat
  /-- a 0x90 frame stores at most its payload (R32) -/
  limit : s.rx.state = .data ∨ s.rx.state = .dataRequested →
    s.rx.full = s.rx.len - 11 ∧ s.rx.limit.toNat ≤ s.rx.full.toNat
  /-- Data stores inside the scratch buffer, with no session pending (R32, R27) -/
  data : s.rx.state = .data →
    s.rx.limit.toNat ≤ s.params.scratchCapacity.toNat ∧ s.corr.sessPending = false
  /-- DataRequested belongs to a pending session (R27) -/
  dataRequested : s.rx.state = .dataRequested → s.corr.sessPending = true
  /-- a response is being received only while it is expected (R114, R115) -/
  transmitStatus : s.rx.state = .transmitStatus → s.corr.expect = .transmitStatus
  /-- likewise -/
  atResponse : s.rx.state = .atResponse → s.corr.expect = .atResponse

/-- The task's part of the invariant: what each value of `task_op` goes with (R34, R37, R44, R45, R143). -/
structure TaskInv (s : State) : Prop where
  noOp : s.task.op = .noOp → s.task.wait = .none ∧ s.tx.state = .idle ∧ s.corr.expect = .none ∧
    s.corr.req = none ∧ s.corr.sess = none ∧ s.corr.sessPending = false
  submitWait : s.task.op = .submitWait → s.task.wait = .awaitingIdleAndResponse ∧ s.corr.req ≠ none ∧
    s.corr.sess = none ∧ s.corr.sessPending = false ∧ s.corr.seqId ≠ 0
  /-- the request outstanding is of the kind that is expected (R34) -/
  expectAt : s.corr.expect = .atResponse → ∃ d, s.corr.req = some (.atCommand d)
  /-- likewise -/
  expectTx : s.corr.expect = .transmitStatus → ∃ d, s.corr.req = some (.transmitData d)
  recvCopy : s.task.op = .recvCopy → s.task.wait = .none ∧ s.tx.state = .idle ∧ s.corr.expect = .none ∧
    s.corr.req = none ∧ s.corr.sess ≠ none ∧ s.task.copyI.toNat < s.task.copyK.toNat ∧
    s.task.copyC.toNat ≤ s.task.copyK.toNat
  recvWait : s.task.op = .recvWait → s.task.wait = .awaitingSessionClear ∧ s.tx.state = .idle ∧
    s.corr.expect = .none ∧ s.corr.req = none ∧ s.corr.sess ≠ none
  /-- a session is pending only while associated (R144, R124) -/
  associated : s.corr.sessPending = true → s.corr.assoc = .associated

/-- The storage's part of the invariant: canonical forms, and nothing outside what exists (R52, R33). -/
structure StoreInv (s : State) : Prop where
  mem : Memory.wf s.mem = true
  memValid : ∀ c ∈ s.mem, addrValid s.params c.1 = true
  scratch : tableWf unlistedByte s.rx.scratch = true
  scratchInside : ∀ c ∈ s.rx.scratch, c.1 < s.params.scratchCapacity.toNat
  atCmds : tableWf AtRecord.zero s.recs.atCmds = true
  txDatas : tableWf TxRecord.zero s.recs.txDatas = true
  recvs : tableWf RecvRecord.zero s.recs.recvs = true

/-- The invariant of the block's runs. -/
structure Inv (s : State) : Prop where
  /-- callbacks are enabled between steps (R42) -/
  ie : s.ie = true
  tx : TxInv s.tx
  rx : RxInv s
  task : TaskInv s
  store : StoreInv s

end Sys2Proof.Machine
end

