-- ==== Sys2Proof/Certificates/Slice0/Obligations.lean ====
section
/-! DEFINITION. The statements for the provers. Each docstring names the rule of spec/ it formalises. -/

open Sys2Proof Sys2Proof.Machine

/-! Encoding -/

/-- 30_encoding.md R72, R84, R85, R87: every well-formed row decodes from its own encoding, whatever follows. -/
def Obligations.DecodeOfEncode : Prop :=
  ∀ (i : Instr) (rest : List Byte), i.wf = true → decode i.format (encode i ++ rest) = .ok (i, rest)

/-- 30_encoding.md R85, R87: a decoded word is a well-formed row of its format and encodes to the bytes read,
so each word has one meaning. -/
def Obligations.EncodeOfDecode : Prop :=
  ∀ (f : Format) (bytes rest : List Byte) (i : Instr), decode f bytes = .ok (i, rest) →
    i.wf = true ∧ i.format = f ∧ encode i ++ rest = bytes

/-- Words written out from opcode_table.json, one or more of each format. -/
def Obligations.TableWordsDecode : Prop :=
  decode .op3 [0b000, 0x41] = .ok (.push 0x41, []) ∧
  decode .op3 [0b001] = .ok (.pull, []) ∧
  decode .op3 [0b100, 0x01, 0x02] = .ok (.receive 0x0102, []) ∧
  decode .op3 [0b111] = .ok (.reserved111, []) ∧
  decode .rxRawByte [0x13] = .ok (.rxFlow13, []) ∧
  decode .rxRawByte [0x5E] = .ok (.rxData 0x5E, []) ∧
  decode .rxFrameType [0x8B] = .ok (.rxTransmitStatus, []) ∧
  decode .rxFrameType [0x10] = .ok (.rxOtherType 0x10, []) ∧
  decode .txFrameType [0x08, 0x00, 0x07] = .ok (.txAtCommand 7, []) ∧
  decode .modemStatus [0x03] = .ok (.msLeft, []) ∧
  decode .escapePair [0x7D] = .ok (.esc7d, [])

/-- 20_memory.md R62: a step runs the operation that the environment hands over, decoded, with that move
taken from the list. -/
def Obligations.StepRunsTheOperation : Prop :=
  ∀ (s : State) (bytes : List Byte) (rest : List Input) (i : Instr),
    s.Takes (.operation bytes) rest → decodeOperation bytes = .ok i →
      step s = exec i { s with inputs := rest }

/-- 60_exceptions.md R167: while `ie` is false neither PUSH (by any raw-byte row) nor PULL is delivered; the
transport holds the event. R167 says only that it is delivered after `ie` is restored: that the held events
come first then, oldest first, before any other move, is the model's choice (log 10, DESIGN CHOICE). -/
def Obligations.MaskedEventsAreHeld : Prop :=
  (∀ (s : State) (b : Byte), s.fault = none → s.ie = false →
    exec (.push b) s = .next { s with held := s.held ++ [.push b] } ∧
    exec (decodeRaw b) s = .next { s with held := s.held ++ [.push b] } ∧
    exec .pull s = .next { s with held := s.held ++ [.pull] }) ∧
  (∀ (s : State) (b : Byte) (rest : List ByteEvent), s.Ready → s.held = .push b :: rest →
    step s = exec (.push b) { s with held := rest }) ∧
  (∀ (s : State) (rest : List ByteEvent), s.Ready → s.held = .pull :: rest →
    step s = exec .pull { s with held := rest })

/-- 41_receiver.md R103 to R107: PUSH of a byte is the row of the byte's class, in every state. -/
def Obligations.PushRunsTheRawByteRow : Prop :=
  ∀ (b : Byte) (s : State), exec (.push b) s = exec (decodeRaw b) s

/-! Faults -/

/-- 60_exceptions.md R161: once a fault is recorded no operation and no step is enabled. -/
def Obligations.FaultedBlockIsHalted : Prop :=
  ∀ (s : State) (f : FaultCode), s.fault = some f →
    (∀ i, exec i s = .fault (.halted f)) ∧ step s = .fault (.halted f)

/-- 30_encoding.md R89: op codes 0b110 and 0b111 raise `FLT_BAD_OP`; nothing else changes. -/
def Obligations.ReservedOpCodesFault : Prop :=
  decodeOperation [0b110] = .ok .reserved110 ∧ decodeOperation [0b111] = .ok .reserved111 ∧
  ∀ s : State, s.Live →
    exec .reserved110 s = .next { s with fault := some (.badOp 0b110) } ∧
    exec .reserved111 s = .next { s with fault := some (.badOp 0b111) }

/-- 60_exceptions.md R161, R170: a command while one is active, or a SUBMIT while the Transmitter is not idle,
records `FLT_BUSY`; a SUBMIT whose frame is too long records `FLT_TOO_LONG` with the length; nothing else
changes. -/
def Obligations.CommandsOutsideTheContractFault : Prop :=
  (∀ (s : State) (d : Ref), s.Live → s.task.op ≠ .noOp ∨ s.tx.state ≠ .idle →
    exec (.submitAt d) s = .next { s with fault := some (.busy .submitAt) } ∧
    exec (.submitTx d) s = .next { s with fault := some (.busy .submitTx) }) ∧
  (∀ (s : State) (r : Ref), s.Live → s.task.op ≠ .noOp →
    exec (.receive r) s = .next { s with fault := some (.busy .receive) } ∧
    exec .assocRead s = .next { s with fault := some (.busy .assocRead) }) ∧
  (∀ (s : State) (d : Ref), s.Live → s.task.op = .noOp → s.tx.state = .idle →
    0xFFFF < 4 + (s.atRecord d).outLen.toNat →
    exec (.submitAt d) s = .next { s with fault := some (.tooLong (4 + (s.atRecord d).outLen.toNat)) }) ∧
  (∀ (s : State) (d : Ref), s.Live → s.task.op = .noOp → s.tx.state = .idle →
    0xFFFF < 14 + (s.txRecord d).dataLen.toNat →
    exec (.submitTx d) s = .next { s with fault := some (.tooLong (14 + (s.txRecord d).dataLen.toNat)) })

/-! Frame Transmitter -/

/-- 40_transmitter.md R92. -/
def Obligations.PullSendsHeldByteFirst : Prop :=
  ∀ s : State, s.Ready → s.tx.escPending = true →
    exec .pull s = .next { s with
      tx := { s.tx with escPending := false }
      out := { s.out with pulled := some s.tx.escByte :: s.out.pulled } }

/-- 40_transmitter.md R93. -/
def Obligations.PullInIdleReturnsNone : Prop :=
  State.reset.tx.state = .idle ∧
  ∀ s : State, s.Ready → s.tx.escPending = false → s.tx.state = .idle →
    exec .pull s = .next { s with out := { s.out with pulled := none :: s.out.pulled } }

/-- 40_transmitter.md R94. -/
def Obligations.PullSendsTheDelimiter : Prop :=
  ∀ s : State, s.Ready → s.tx.escPending = false → s.tx.state = .frameMark →
    exec .pull s = .next { s with
      tx := { s.tx with sum := 0, state := .length1 }
      out := { s.out with pulled := some 0x7E :: s.out.pulled } }

/-- 40_transmitter.md R95: the length bytes, through `tx_esc`, not summed. -/
def Obligations.PullSendsTheLength : Prop :=
  (∀ s : State, s.Ready → s.tx.escPending = false → s.tx.state = .length1 →
    exec .pull s = .next ({ s with tx := { s.tx with state := .length2 } }.txEsc (s.tx.flen.extractLsb' 8 8))) ∧
  (∀ s : State, s.Ready → s.tx.escPending = false → s.tx.state = .length2 →
    exec .pull s =
      .next ({ s with tx := { s.tx with idx := 0, state := .header } }.txEsc (s.tx.flen.extractLsb' 0 8)))

/-- 40_transmitter.md R96. -/
def Obligations.PullSendsAHeaderByte : Prop :=
  ∀ (s : State) (raw : Byte), s.Ready → s.tx.escPending = false → s.tx.state = .header →
    s.tx.hdr[s.tx.idx.toNat]? = some raw →
    exec .pull s = .next ({ s with
      tx := if s.tx.idx + 1 = s.tx.hdrLen.setWidth 16 then
          { s.tx with sum := s.tx.sum + raw, idx := 0,
                      state := if 0 < s.tx.plen.toNat then .data else .checksum }
        else { s.tx with sum := s.tx.sum + raw, idx := s.tx.idx + 1 } }.txEsc raw)

/-- 40_transmitter.md R97, and 20_memory.md R52 for an address that is not valid. -/
def Obligations.PullSendsAPayloadByte : Prop :=
  (∀ (s : State) (raw : Byte), s.Ready → s.tx.escPending = false → s.tx.state = .data →
    addrValid s.params (s.tx.pptr + s.tx.idx.toNat) = true →
    raw = Memory.read s.mem (s.tx.pptr + s.tx.idx.toNat) →
    exec .pull s = .next ({ s with
      tx := { s.tx with
        sum := s.tx.sum + raw, idx := s.tx.idx + 1,
        state := if s.tx.idx + 1 = s.tx.plen then .checksum else .data } }.txEsc raw)) ∧
  (∀ s : State, s.Ready → s.tx.escPending = false → s.tx.state = .data →
    addrValid s.params (s.tx.pptr + s.tx.idx.toNat) = false →
    exec .pull s = .next { s with fault := some (.mem (s.tx.pptr + s.tx.idx.toNat)) })

/-- 40_transmitter.md R98: the checksum is sent and Idle reached on this call; a held second byte goes out on
the next PULL. -/
def Obligations.PullSendsTheChecksum : Prop :=
  ∀ s : State, s.Ready → s.tx.escPending = false → s.tx.state = .checksum →
    exec .pull s = .next ({ s with tx := { s.tx with state := .idle } }.txEsc (0xFF - s.tx.sum)) ∧
    (isSpecial (0xFF - s.tx.sum) = true →
      runOps [.pull, .pull] s = .next { s with
        tx := { s.tx with state := .idle, escPending := false, escByte := (0xFF - s.tx.sum) ^^^ 0x20 }
        out := { s.out with pulled := some ((0xFF - s.tx.sum) ^^^ 0x20) :: some 0x7D :: s.out.pulled } })

/-- 40_transmitter.md R99, 30_encoding.md R72: what `tx_esc` does with each value, and the four escape pairs. -/
def Obligations.SpecialValuesAreSentAsPairs : Prop :=
  (∀ (s : State) (raw : Byte), raw = 0x7E ∨ raw = 0x7D ∨ raw = 0x11 ∨ raw = 0x13 →
    s.txEsc raw = { s with
      tx := { s.tx with escPending := true, escByte := raw ^^^ 0x20 }
      out := { s.out with pulled := some 0x7D :: s.out.pulled } }) ∧
  (∀ (s : State) (raw : Byte), IsData raw →
    s.txEsc raw = { s with out := { s.out with pulled := some raw :: s.out.pulled } }) ∧
  (∀ s : State, s.Live →
    exec .esc7e s = .next { s with
      tx := { s.tx with escPending := true, escByte := 0x5E }
      out := { s.out with pulled := some 0x7D :: s.out.pulled } } ∧
    exec .esc7d s = .next { s with
      tx := { s.tx with escPending := true, escByte := 0x5D }
      out := { s.out with pulled := some 0x7D :: s.out.pulled } } ∧
    exec .esc11 s = .next { s with
      tx := { s.tx with escPending := true, escByte := 0x31 }
      out := { s.out with pulled := some 0x7D :: s.out.pulled } } ∧
    exec .esc13 s = .next { s with
      tx := { s.tx with escPending := true, escByte := 0x33 }
      out := { s.out with pulled := some 0x7D :: s.out.pulled } })

/-- 10_state.md R21, 40_transmitter.md R91: PULL changes Transmitter fields and its result, or records a
fault; every other field, and every byte of memory, stays. -/
def Obligations.PullFrame : Prop :=
  ∀ s t : State, s.Ready → exec .pull s = .next t →
    t.rx = s.rx ∧ t.corr = s.corr ∧ t.task = s.task ∧ t.ie = s.ie ∧ t.recs = s.recs ∧ t.params = s.params ∧
    t.draws = s.draws ∧ t.inputs = s.inputs ∧ t.held = s.held ∧
    t.out.task = s.out.task ∧ t.out.discards = s.out.discards ∧
    t.tx.hdr = s.tx.hdr ∧ t.tx.hdrLen = s.tx.hdrLen ∧ t.tx.pptr = s.tx.pptr ∧ t.tx.plen = s.tx.plen ∧
    t.tx.flen = s.tx.flen ∧
    (∀ a : Nat, Memory.read t.mem a = Memory.read s.mem a) ∧
    (t.fault ≠ none → t.tx = s.tx ∧ t.out = s.out)

/-- 40_transmitter.md R102: what PULL sends and does to the Transmitter depends on the Transmitter and on
memory alone. -/
def Obligations.PullDependsOnTransmitterAndMemory : Prop :=
  ∀ s u t : State, s.Ready → u.Ready → u.tx = s.tx → u.mem = s.mem → u.params = s.params →
    u.out.pulled = s.out.pulled → exec .pull s = .next t →
    ∃ v, exec .pull u = .next v ∧ v.tx = t.tx ∧ v.out.pulled = t.out.pulled ∧ v.fault = t.fault

/-- 40_transmitter.md R101, 30_encoding.md R69 to R73: from FrameMark the PULLs return exactly the escaped
frame of the body set up, and then None. -/
def Obligations.TransmitterSendsTheFrame : Prop :=
  ∀ s : State, s.Ready → s.tx.state = .frameMark → s.tx.escPending = false → TxInv s.tx →
    (∀ i : Nat, i < s.tx.plen.toNat → addrValid s.params (s.tx.pptr + i) = true) →
    ∃ t, runOps (pulls (wireFrame s.txBody).length) s = .next t ∧
      t.out.pulled = ((wireFrame s.txBody).map some).reverse ++ s.out.pulled ∧
      t.tx.state = .idle ∧ t.tx.escPending = false ∧
      exec .pull t = .next { t with out := { t.out with pulled := none :: t.out.pulled } }

/-! Frame Receiver: raw bytes, length, type -/

/-- 41_receiver.md R104, R106: a raw 0x11 or 0x13 changes nothing; a raw 0x7D sets the escape flag alone. -/
def Obligations.FlowAndEscapeBytes : Prop :=
  (∀ s : State, s.Ready →
    exec .rxFlow11 s = .next s ∧ exec .rxFlow13 s = .next s ∧
    exec (.push 0x11) s = .next s ∧ exec (.push 0x13) s = .next s) ∧
  (∀ s : State, s.Ready →
    exec .rxEsc7d s = .next { s with rx := { s.rx with esc := true } } ∧
    exec (.push 0x7D) s = .next { s with rx := { s.rx with esc := true } })

/-- 41_receiver.md R105, with the trace label of 60_exceptions.md R160. -/
def Obligations.DelimiterResynchronises : Prop :=
  ∀ s t : State, s.Ready →
    t = { s with
      rx := { s.rx with state := .length1, esc := false, count := 0, sum := 0 }
      out := { s.out with discards :=
        if s.rx.state = .frameMark ∨ s.rx.state = .length1 then s.out.discards
        else .resync :: s.out.discards } } →
    exec .rxDelim7e s = .next t ∧ exec (.push 0x7E) s = .next t

/-- 41_receiver.md R107: a data byte acts as its value, with the escape flag used up; the row of a value is
what `decodeType` gives. Where the value raises no fault both come to the same state. -/
def Obligations.DataByteActsAsItsValue : Prop :=
  (∀ (s t : State) (b v : Byte), s.Receives b v → t.fault = none →
    (exec (.rxData b) s = .next t ↔ exec (decodeType v) { s with rx := { s.rx with esc := false } } = .next t)) ∧
  (∀ s : State, s.Ready → s.rx.esc = true → s.Receives 0x5E 0x7E)

/-- 41_receiver.md R108: in frame search only a raw 0x7E leaves the state; a data value is ignored. -/
def Obligations.FrameSearchIgnoresData : Prop :=
  (∀ (s : State) (b v : Byte), s.Receives b v → s.rx.state = .frameMark →
    exec (.rxData b) s = .next { s with rx := { s.rx with esc := false } } ∧
    exec (.push b) s = .next { s with rx := { s.rx with esc := false } }) ∧
  (∀ (s t : State) (b : Byte), s.Ready → s.rx.state = .frameMark → b ≠ 0x7E →
    exec (.push b) s = .next t → t.rx.state = .frameMark)

/-- 41_receiver.md R109, R110: two values are the declared length, high byte first; 0 is discarded. -/
def Obligations.LengthBytesAreAssembled : Prop :=
  (∀ (s : State) (b v : Byte), s.Receives b v → s.rx.state = .length1 →
    exec (.push b) s = .next { s with rx := { s.rx with len := v ++ (0 : Byte), state := .length2, esc := false } }) ∧
  (∀ (s : State) (b high low : Byte) (declared : U16), s.Receives b low → s.rx.state = .length2 →
    s.rx.len = high ++ (0 : Byte) → declared = high ++ low → declared ≠ 0 →
    exec (.push b) s =
      .next { s with rx := { s.rx with len := declared - 1, state := .frameType, esc := false } }) ∧
  (∀ (s : State) (b : Byte), s.Receives b 0 → s.rx.state = .length2 → s.rx.len = 0 →
    exec (.push b) s = .next { s with
      rx := { s.rx with state := .frameMark, esc := false }
      out := { s.out with discards := .len0 :: s.out.discards } })

/-- 41_receiver.md R113: 0x8A is accepted whenever `rx_len ≥ 1`. -/
def Obligations.ModemStatusTypeByte : Prop :=
  ∀ s : State, s.Live → s.rx.state = .frameType →
    (1 ≤ s.rx.len.toNat → exec .rxModemStatus s = .next { s with
      rx := { s.rx with type := 0x8A, sum := 0x8A, count := 0, state := .modemStatus } }) ∧
    (s.rx.len.toNat < 1 → exec .rxModemStatus s = .next { s with
      rx := { s.rx with type := 0x8A, sum := 0x8A, count := 0, state := .frameMark }
      out := { s.out with discards := .short :: s.out.discards } })

/-- 41_receiver.md R114: 0x8B is accepted when `expect = TransmitStatus` and `rx_len ≥ 6`, else discarded. The
label of a frame that is both unexpected and short, DR_UNEXPECTED, is the model's choice (log 12): R160 gives the
two reasons no order. -/
def Obligations.TransmitStatusTypeByte : Prop :=
  ∀ s : State, s.Live → s.rx.state = .frameType →
    (s.corr.expect = .transmitStatus → 6 ≤ s.rx.len.toNat → exec .rxTransmitStatus s = .next { s with
      rx := { s.rx with type := 0x8B, sum := 0x8B, count := 0, state := .transmitStatus } }) ∧
    (s.corr.expect ≠ .transmitStatus ∨ s.rx.len.toNat < 6 → exec .rxTransmitStatus s = .next { s with
      rx := { s.rx with type := 0x8B, sum := 0x8B, count := 0, state := .frameMark }
      out := { s.out with discards :=
        (if s.corr.expect = .transmitStatus then .short else .unexpected) :: s.out.discards } })

/-- 41_receiver.md R115: 0x88 is accepted when `expect = AtResponse` and `rx_len ≥ 4`, else discarded. The label
of a frame that is both unexpected and short, DR_UNEXPECTED, is the model's choice (log 12): R160 gives the two
reasons no order. -/
def Obligations.AtResponseTypeByte : Prop :=
  ∀ s : State, s.Live → s.rx.state = .frameType →
    (s.corr.expect = .atResponse → 4 ≤ s.rx.len.toNat → exec .rxAtResponse s = .next { s with
      rx := { s.rx with type := 0x88, sum := 0x88, count := 0, state := .atResponse } }) ∧
    (s.corr.expect ≠ .atResponse ∨ s.rx.len.toNat < 4 → exec .rxAtResponse s = .next { s with
      rx := { s.rx with type := 0x88, sum := 0x88, count := 0, state := .frameMark }
      out := { s.out with discards :=
        (if s.corr.expect = .atResponse then .short else .unexpected) :: s.out.discards } })

/-- 41_receiver.md R116: 0x90 is accepted whenever `rx_len ≥ 11`, to the pending session's buffer or to
scratch, with the store limit capped to its capacity. -/
def Obligations.ReceivePacketTypeByte : Prop :=
  (∀ (s : State) (r : Ref), s.Live → s.rx.state = .frameType → 11 ≤ s.rx.len.toNat →
    s.corr.sessPending = true → s.corr.sess = some r →
    ∃ limit : U16, limit.toNat = min (s.rx.len.toNat - 11) (s.recvRecord r).cap.toNat ∧
      exec .rxReceivePacket s = .next { s with
        rx := { s.rx with type := 0x90, sum := 0x90, count := 0, full := s.rx.len - 11, limit := limit,
                          state := .dataRequested } }) ∧
  (∀ s : State, s.Live → s.rx.state = .frameType → 11 ≤ s.rx.len.toNat → s.corr.sessPending = false →
    ∃ limit : U16, limit.toNat = min (s.rx.len.toNat - 11) s.params.scratchCapacity.toNat ∧
      exec .rxReceivePacket s = .next { s with
        rx := { s.rx with type := 0x90, sum := 0x90, count := 0, full := s.rx.len - 11, limit := limit,
                          state := .data } }) ∧
  (∀ s : State, s.Live → s.rx.state = .frameType → s.rx.len.toNat < 11 →
    exec .rxReceivePacket s = .next { s with
      rx := { s.rx with type := 0x90, sum := 0x90, count := 0, state := .frameMark }
      out := { s.out with discards := .short :: s.out.discards } })

/-- 41_receiver.md R117: any other type is discarded, the outgoing types 0x08 and 0x10 included. -/
def Obligations.OtherTypesAreDiscarded : Prop :=
  (Instr.rxOtherType 0x08).wf = true ∧ (Instr.rxOtherType 0x10).wf = true ∧
  ∀ (s : State) (v : Byte), s.Live → s.rx.state = .frameType → (Instr.rxOtherType v).wf = true →
    exec (.rxOtherType v) s = .next { s with
      rx := { s.rx with type := v, sum := v, count := 0, state := .frameMark }
      out := { s.out with discards := .type :: s.out.discards } }

/-! Frame Receiver: body -/

/-- 41_receiver.md R119 (with R118): body byte i of the header goes to `rx_hdr[i]`, is summed and counted. -/
def Obligations.HeaderBytesAreStored : Prop :=
  ∀ (s : State) (b v : Byte) (h : Nat), s.Receives b v → s.rx.state.IsBody →
    headerSize s.rx.type = some h → s.rx.count.toNat < s.rx.len.toNat → s.rx.count.toNat < h →
    exec (.push b) s = .next { s with
      rx := { s.rx with hdr := s.rx.hdr.setIfInBounds s.rx.count.toNat v,
                        sum := s.rx.sum + v, count := s.rx.count + 1, esc := false } }

/-- 41_receiver.md R120: payload byte j of a 0x90 frame goes to scratch or to the session's buffer while
`j < rx_limit`, and is discarded after it; bytes after the other headers are not stored; all are summed and
counted. -/
def Obligations.PayloadBytesAreDelivered : Prop :=
  (∀ (s : State) (b v : Byte), s.Receives b v → s.rx.state = .data → s.rx.type = 0x90 →
    s.rx.count.toNat < s.rx.len.toNat → 11 ≤ s.rx.count.toNat →
    exec (.push b) s = .next { s with
      rx := { s.rx with
        scratch := if s.rx.count.toNat - 11 < s.rx.limit.toNat then
          tableSet unlistedByte s.rx.scratch (s.rx.count.toNat - 11) v else s.rx.scratch,
        sum := s.rx.sum + v, count := s.rx.count + 1, esc := false } }) ∧
  (∀ (s : State) (b v : Byte) (r : Ref) (a : Nat), s.Receives b v → s.rx.state = .dataRequested →
    s.rx.type = 0x90 → s.rx.count.toNat < s.rx.len.toNat → 11 ≤ s.rx.count.toNat →
    s.rx.count.toNat - 11 < s.rx.limit.toNat → s.corr.sess = some r →
    a = (s.recvRecord r).bufPtr + (s.rx.count.toNat - 11) → addrValid s.params a = true →
    Memory.wf s.mem = true →
    ∃ m, exec (.push b) s = .next { s with
        mem := m, rx := { s.rx with sum := s.rx.sum + v, count := s.rx.count + 1, esc := false } } ∧
      Memory.read m a = v ∧ ∀ c : Nat, c ≠ a → Memory.read m c = Memory.read s.mem c) ∧
  (∀ (s : State) (b v : Byte), s.Receives b v → s.rx.state = .dataRequested → s.rx.type = 0x90 →
    s.rx.count.toNat < s.rx.len.toNat → 11 ≤ s.rx.count.toNat →
    s.rx.limit.toNat ≤ s.rx.count.toNat - 11 →
    exec (.push b) s = .next { s with
      rx := { s.rx with sum := s.rx.sum + v, count := s.rx.count + 1, esc := false } }) ∧
  (∀ (s : State) (b v : Byte) (h : Nat), s.Receives b v →
    s.rx.state = .modemStatus ∨ s.rx.state = .transmitStatus ∨ s.rx.state = .atResponse →
    headerSize s.rx.type = some h → s.rx.count.toNat < s.rx.len.toNat → h ≤ s.rx.count.toNat →
    exec (.push b) s = .next { s with
      rx := { s.rx with sum := s.rx.sum + v, count := s.rx.count + 1, esc := false } })

/-- 20_memory.md R52, 60_exceptions.md R161: a payload byte for an address that is not valid records `FLT_MEM`
and changes nothing else. -/
def Obligations.PushOutsideMemoryFaults : Prop :=
  ∀ (s : State) (b v : Byte) (r : Ref) (a : Nat), s.Receives b v → s.rx.state = .dataRequested →
    s.rx.type = 0x90 → s.rx.count.toNat < s.rx.len.toNat → 11 ≤ s.rx.count.toNat →
    s.rx.count.toNat - 11 < s.rx.limit.toNat → s.corr.sess = some r →
    a = (s.recvRecord r).bufPtr + (s.rx.count.toNat - 11) → addrValid s.params a = false →
    exec (.push b) s = .next { s with fault := some (.mem a) }

/-- 41_receiver.md R121, R122: a checksum that does not match discards the frame and touches nothing else. -/
def Obligations.ChecksumMismatchDiscards : Prop :=
  ∀ (s : State) (b v : Byte), s.Receives b v → s.rx.state.IsBody → s.rx.count = s.rx.len →
    s.rx.sum + v ≠ 0xFF →
    exec (.push b) s = .next { s with
      rx := { s.rx with state := .frameMark, esc := false }
      out := { s.out with discards := .checksum :: s.out.discards } }

/-- 41_receiver.md R124: the association after a valid modem status, and the abort of a pending session; the
three modem-status rows are these completions. -/
def Obligations.ModemStatusCompletion : Prop :=
  (∀ (s : State) (b v : Byte) (corr : Corr), s.Receives b v → s.rx.state = .modemStatus →
    s.rx.count = s.rx.len → s.rx.sum + v = 0xFF →
    (s.rx.hdr[0] = 0x02 → corr = { s.corr with assoc := .associated }) →
    (s.rx.hdr[0] = 0x03 → corr = { s.corr with assoc := .notAssociated, sessPending := false }) →
    (s.rx.hdr[0] ≠ 0x02 → s.rx.hdr[0] ≠ 0x03 → corr = s.corr) →
    exec (.push b) s = .next { s with
      corr := corr, rx := { s.rx with state := .frameMark, esc := false } }) ∧
  (∀ (s : State) (st : Byte), s.Live →
    exec .msJoined s = .next { s with corr := { s.corr with assoc := .associated } } ∧
    exec .msLeft s = .next { s with corr := { s.corr with assoc := .notAssociated, sessPending := false } } ∧
    exec (.msOther st) s = .next s)

/-- 41_receiver.md R125: a transmit status clears the Transmit request whatever its id, and its delivery byte
is the result. -/
def Obligations.TransmitStatusCompletion : Prop :=
  ∀ (s : State) (b v : Byte) (d : Ref), s.Receives b v → s.rx.state = .transmitStatus →
    s.rx.count = s.rx.len → s.rx.sum + v = 0xFF → s.corr.req = some (.transmitData d) →
    exec (.push b) s = .next ({ s with
      corr := { s.corr with expect := .none }
      rx := { s.rx with state := .frameMark, esc := false } }.setTxRecord d
        { s.txRecord d with result := s.rx.hdr[4] })

/-- 41_receiver.md R126: the status byte is the result; another id leaves the request outstanding; the
matching id clears it and every in_buffer byte is drawn, or, where an in_buffer address is not valid,
`FLT_MEM` is recorded and nothing else changes. That the bytes are drawn in rising order of address, so that the
recorded address is the first that is not valid, is the model's inference (log 15, DEDUCED); the drawn bytes are
the free values of log 4. -/
def Obligations.AtResponseCompletion : Prop :=
  (∀ (s : State) (b v : Byte) (d : Ref), s.Receives b v → s.rx.state = .atResponse →
    s.rx.count = s.rx.len → s.rx.sum + v = 0xFF → s.corr.req = some (.atCommand d) →
    s.rx.hdr[0] ≠ s.corr.seqId →
    exec (.push b) s = .next ({ s with rx := { s.rx with state := .frameMark, esc := false } }.setAtRecord d
      { s.atRecord d with result := s.rx.hdr[3] })) ∧
  (∀ (s : State) (b v : Byte) (d : Ref), s.Receives b v → s.rx.state = .atResponse →
    s.rx.count = s.rx.len → s.rx.sum + v = 0xFF → s.corr.req = some (.atCommand d) →
    s.rx.hdr[0] = s.corr.seqId → Memory.wf s.mem = true → tableWf AtRecord.zero s.recs.atCmds = true →
    (∀ i : Nat, i < (s.atRecord d).inCap.toNat → addrValid s.params ((s.atRecord d).inPtr + i) = true) →
    ∃ m, exec (.push b) s = .next ({ s with
        mem := m, draws := s.draws + (s.atRecord d).inCap.toNat,
        corr := { s.corr with expect := .none },
        rx := { s.rx with state := .frameMark, esc := false } }.setAtRecord d
          { s.atRecord d with result := s.rx.hdr[3] }) ∧
      (∀ i : Nat, i < (s.atRecord d).inCap.toNat →
        Memory.read m ((s.atRecord d).inPtr + i) = Config.freeByte (s.draws + i)) ∧
      (∀ c : Nat, c < (s.atRecord d).inPtr ∨ (s.atRecord d).inPtr + (s.atRecord d).inCap.toNat ≤ c →
        Memory.read m c = Memory.read s.mem c)) ∧
  (∀ (s : State) (b v : Byte) (d : Ref) (i : Nat), s.Receives b v → s.rx.state = .atResponse →
    s.rx.count = s.rx.len → s.rx.sum + v = 0xFF → s.corr.req = some (.atCommand d) →
    s.rx.hdr[0] = s.corr.seqId → tableWf AtRecord.zero s.recs.atCmds = true →
    i < (s.atRecord d).inCap.toNat → addrValid s.params ((s.atRecord d).inPtr + i) = false →
    ∃ a : Nat, (s.atRecord d).inPtr ≤ a ∧ a ≤ (s.atRecord d).inPtr + i ∧ addrValid s.params a = false ∧
      exec (.push b) s = .next { s with fault := some (.mem a) })

/-- 41_receiver.md R127, R128: a frame delivered to the session fills the descriptor and ends the session; a
frame that no session claimed completes with no action. -/
def Obligations.ReceivePacketCompletion : Prop :=
  (∀ (s : State) (b v : Byte) (r : Ref), s.Receives b v → s.rx.state = .dataRequested →
    s.rx.count = s.rx.len → s.rx.sum + v = 0xFF → s.corr.sess = some r →
    exec (.push b) s = .next ({ s with
      corr := { s.corr with sessSuccess := true, sessPending := false }
      rx := { s.rx with state := .frameMark, esc := false } }.setRecvRecord r { s.recvRecord r with
        addr64 := s.rx.hdr[0] ++ s.rx.hdr[1] ++ s.rx.hdr[2] ++ s.rx.hdr[3] ++ s.rx.hdr[4] ++ s.rx.hdr[5] ++
          s.rx.hdr[6] ++ s.rx.hdr[7]
        addr16 := s.rx.hdr[8] ++ s.rx.hdr[9]
        length := s.rx.limit })) ∧
  (∀ (s : State) (b v : Byte), s.Receives b v → s.rx.state = .data →
    s.rx.count = s.rx.len → s.rx.sum + v = 0xFF →
    exec (.push b) s = .next { s with rx := { s.rx with state := .frameMark, esc := false } })

/-- 10_state.md R20, R21, 41_receiver.md R103: what PUSH leaves unchanged, and where it may write memory. -/
def Obligations.PushFrame : Prop :=
  ∀ (s t : State) (b : Byte), s.Ready → exec (.push b) s = .next t →
    t.tx = s.tx ∧ t.task = s.task ∧ t.ie = s.ie ∧ t.params = s.params ∧
    t.inputs = s.inputs ∧ t.held = s.held ∧ t.out.pulled = s.out.pulled ∧ t.out.task = s.out.task ∧
    t.corr.seqId = s.corr.seqId ∧ t.corr.req = s.corr.req ∧ t.corr.sess = s.corr.sess ∧
    (t.fault ≠ none → t = { s with fault := t.fault }) ∧
    (s.rx.state ≠ .data → t.rx.scratch = s.rx.scratch) ∧
    (s.rx.state ≠ .modemStatus → t.corr.assoc = s.corr.assoc) ∧
    (s.rx.state ≠ .modemStatus → s.rx.state ≠ .dataRequested →
      t.corr.sessPending = s.corr.sessPending ∧ t.corr.sessSuccess = s.corr.sessSuccess) ∧
    (s.rx.state ≠ .dataRequested → t.recs.recvs = s.recs.recvs) ∧
    (s.rx.state ≠ .transmitStatus → s.rx.state ≠ .atResponse →
      t.corr.expect = s.corr.expect ∧ t.recs.atCmds = s.recs.atCmds ∧ t.recs.txDatas = s.recs.txDatas) ∧
    (s.rx.state ≠ .atResponse → t.draws = s.draws) ∧
    (s.rx.state ≠ .dataRequested → s.rx.state ≠ .atResponse →
      ∀ a : Nat, Memory.read t.mem a = Memory.read s.mem a) ∧
    (∀ r : Ref, s.rx.state = .dataRequested → s.rx.type = 0x90 → s.corr.sess = some r →
      ∀ a : Nat, a ≠ (s.recvRecord r).bufPtr + (s.rx.count.toNat - 11) →
        Memory.read t.mem a = Memory.read s.mem a) ∧
    (∀ d : Ref, s.rx.state = .atResponse → s.corr.req = some (.atCommand d) →
      tableWf AtRecord.zero s.recs.atCmds = true →
      ∀ a : Nat, a < (s.atRecord d).inPtr ∨ (s.atRecord d).inPtr + (s.atRecord d).inCap.toNat ≤ a →
        Memory.read t.mem a = Memory.read s.mem a)

/-- 30_encoding.md R69 to R72, 41_receiver.md R130, R127: a 0x90 frame pushed while a session is pending, with
raw flow bytes anywhere among its bytes, is delivered: the sender's fields, the length capped to the capacity,
and the payload in the buffer. -/
def Obligations.ReceiverDeliversTheFrame : Prop :=
  ∀ (s : State) (r : Ref) (header payload raw : List Byte), s.Ready → s.corr.sessPending = true →
    s.corr.sess = some r → Memory.wf s.mem = true → tableWf RecvRecord.zero s.recs.recvs = true →
    header.length = 11 → 12 + payload.length ≤ 0xFFFF →
    (∀ j : Nat, j < min payload.length (s.recvRecord r).cap.toNat →
      addrValid s.params ((s.recvRecord r).bufPtr + j) = true) →
    (raw.filter fun b => !isFlow b) = wireFrame (0x90 :: (header ++ payload)) →
    ∃ t, runOps (pushAll raw) s = .next t ∧
      t.rx.state = .frameMark ∧ t.corr.sessPending = false ∧ t.corr.sessSuccess = true ∧
      t.rx.hdr.toList = header ∧
      (t.recvRecord r).addr64 = rxAddr64 t.rx.hdr ∧ (t.recvRecord r).addr16 = rxAddr16 t.rx.hdr ∧
      (t.recvRecord r).length.toNat = min payload.length (s.recvRecord r).cap.toNat ∧
      ∀ (j : Nat) (v : Byte), j < (s.recvRecord r).cap.toNat → payload[j]? = some v →
        Memory.read t.mem ((s.recvRecord r).bufPtr + j) = v

/-- 41_receiver.md R131: one bit changed in one body or checksum byte, where neither the byte nor the changed
byte is a special value, and the frame is discarded with no completion: correlation, session, association and
records stay. -/
def Obligations.ChecksumRejectsABitFlip : Prop :=
  ∀ (s : State) (body : List Byte) (k n : Nat) (v : Byte), s.Ready → body ≠ [] → body.length ≤ 0xFFFF →
    (s.corr.sessPending = true → ∃ r, s.corr.sess = some r ∧
      ∀ j : Nat, j < (s.recvRecord r).cap.toNat → addrValid s.params ((s.recvRecord r).bufPtr + j) = true) →
    2 ≤ k → (frameValues body)[k]? = some v → n < 8 →
    isSpecial v = false → isSpecial (v ^^^ (1 <<< n)) = false →
    ∃ t, runOps (pushAll (0x7E :: ((frameValues body).set k (v ^^^ (1 <<< n))).flatMap wireValue)) s = .next t ∧
      t.rx.state = .frameMark ∧ t.corr = s.corr ∧ t.recs = s.recs ∧ t.fault = none

/-- 43_receive_session.md R156: a 0x90 frame of which `first` has gone to scratch when a RECEIVE with a smaller
buffer is issued: the copy, the rest of the frame, and the RECEIVE returns true with the buffer full. -/
def Obligations.ReceiveOverlapTruncates : Prop :=
  ∀ (s : State) (r : Ref) (header first last : List Byte) (cap : Nat), Inv s → s.fault = none → s.held = [] →
    s.task.op = .noOp → s.corr.assoc = .associated → header.length = 11 →
    12 + (first ++ last).length ≤ 0xFFFF → 0 < first.length → first.length ≤ s.params.scratchCapacity.toNat →
    cap = (s.recvRecord r).cap.toNat → cap < (first ++ last).length →
    (∀ j : Nat, j < cap → addrValid s.params ((s.recvRecord r).bufPtr + j) = true) →
    s.inputs =
      (0x7E :: ((frameValues (0x90 :: (header ++ (first ++ last)))).take (14 + first.length)).flatMap wireValue).map
        (fun b => .operation (encode (.push b))) ++
      [.operation (encode (.receive r))] ++ List.replicate (min first.length cap) .resume ++
      (((frameValues (0x90 :: (header ++ (first ++ last)))).drop (14 + first.length)).flatMap wireValue).map
        (fun b => .operation (encode (.push b))) ++
      [.resume] →
    ∃ t, runSteps s.inputs.length s = .next t ∧
      t.out.task = .receiveReturned true :: s.out.task ∧ t.task.op = .noOp ∧
      (t.recvRecord r).length.toNat = cap ∧
      ∀ (j : Nat) (v : Byte), j < cap → (first ++ last)[j]? = some v →
        Memory.read t.mem ((s.recvRecord r).bufPtr + j) = v

/-- 43_receive_session.md R157: the frame of modem status 0x03 aborts a pending session in any Receiver
state, without touching its descriptor. -/
def Obligations.DisassociationAbortsTheSession : Prop :=
  ∀ s : State, s.Ready → s.corr.sessPending = true →
    ∃ t, runOps (pushAll [0x7E, 0x00, 0x02, 0x8A, 0x03, 0x72]) s = .next t ∧
      t.corr = { s.corr with assoc := .notAssociated, sessPending := false } ∧
      t.recs = s.recs ∧ t.mem = s.mem ∧ t.task = s.task ∧ t.rx.state = .frameMark

/-! Request Dispatcher -/

/-- 42_dispatcher.md R132, R134, R135, R136: SUBMIT_AT's phase A. -/
def Obligations.SubmitAtPhaseA : Prop :=
  ∀ (s : State) (d : Ref) (id : Byte), s.Live → s.task.op = .noOp → s.tx.state = .idle →
    4 + (s.atRecord d).outLen.toNat ≤ 0xFFFF →
    id = (if s.corr.seqId = 0xFF then 0x01 else s.corr.seqId + 1) →
    exec (.submitAt d) s = .next { s with
      corr := { s.corr with seqId := id, req := some (.atCommand d), expect := .atResponse }
      tx := { s.tx with
        state := .frameMark
        hdr := (((s.tx.hdr.set 0 0x08).set 1 id).set 2 (s.atRecord d).cmd0).set 3 (s.atRecord d).cmd1
        hdrLen := 4, pptr := (s.atRecord d).outPtr, plen := (s.atRecord d).outLen,
        flen := 4 + (s.atRecord d).outLen, idx := 0 }
      task := { s.task with wait := .awaitingIdleAndResponse, op := .submitWait }
      out := { s.out with task := .kick :: s.out.task } }

/-- 42_dispatcher.md R133, R134, R135, R136: SUBMIT_TX's phase A. -/
def Obligations.SubmitTxPhaseA : Prop :=
  ∀ (s : State) (d : Ref) (id : Byte), s.Live → s.task.op = .noOp → s.tx.state = .idle →
    14 + (s.txRecord d).dataLen.toNat ≤ 0xFFFF →
    id = (if s.corr.seqId = 0xFF then 0x01 else s.corr.seqId + 1) →
    ∃ hdr : Vector Byte 14,
      exec (.submitTx d) s = .next { s with
        corr := { s.corr with seqId := id, req := some (.transmitData d), expect := .transmitStatus }
        tx := { s.tx with
          state := .frameMark, hdr := hdr, hdrLen := 14, pptr := (s.txRecord d).dataPtr,
          plen := (s.txRecord d).dataLen, flen := 14 + (s.txRecord d).dataLen, idx := 0 }
        task := { s.task with wait := .awaitingIdleAndResponse, op := .submitWait }
        out := { s.out with task := .kick :: s.out.task } } ∧
      hdr[0] = 0x10 ∧ hdr[1] = id ∧
      (∀ i : Nat, i < 8 → hdr[2 + i]? = some ((s.txRecord d).addr64.extractLsb' (56 - 8 * i) 8)) ∧
      hdr[10] = (s.txRecord d).addr16.extractLsb' 8 8 ∧ hdr[11] = (s.txRecord d).addr16.extractLsb' 0 8 ∧
      hdr[12] = s.params.txRadius ∧ hdr[13] = s.params.txOptions

/-- 30_encoding.md R76, R77: the two outgoing headers, with the current sequence id; a frame that does not fit
its length field is `FLT_TOO_LONG` here too (log 8, the model's choice). -/
def Obligations.OutgoingHeaderLayouts : Prop :=
  (∀ (s : State) (d : Ref), s.Live → 4 + (s.atRecord d).outLen.toNat ≤ 0xFFFF →
    ∃ hdr : Vector Byte 14,
      exec (.txAtCommand d) s = .next { s with tx := { s.tx with
        hdr := hdr, hdrLen := 4, pptr := (s.atRecord d).outPtr, plen := (s.atRecord d).outLen,
        flen := 4 + (s.atRecord d).outLen, idx := 0 } } ∧
      hdr.toList = [0x08, s.corr.seqId, (s.atRecord d).cmd0, (s.atRecord d).cmd1] ++ s.tx.hdr.toList.drop 4) ∧
  (∀ (s : State) (d : Ref), s.Live → 14 + (s.txRecord d).dataLen.toNat ≤ 0xFFFF →
    ∃ hdr : Vector Byte 14,
      exec (.txTransmitRequest d) s = .next { s with tx := { s.tx with
        hdr := hdr, hdrLen := 14, pptr := (s.txRecord d).dataPtr, plen := (s.txRecord d).dataLen,
        flen := 14 + (s.txRecord d).dataLen, idx := 0 } } ∧
      hdr.toList = [0x10, s.corr.seqId] ++
        ((List.range 8).map fun i => (s.txRecord d).addr64.extractLsb' (56 - 8 * i) 8) ++
        [(s.txRecord d).addr16.extractLsb' 8 8, (s.txRecord d).addr16.extractLsb' 0 8,
         s.params.txRadius, s.params.txOptions]) ∧
  (∀ (s : State) (d : Ref), s.Live → 0xFFFF < 4 + (s.atRecord d).outLen.toNat →
    exec (.txAtCommand d) s = .next { s with fault := some (.tooLong (4 + (s.atRecord d).outLen.toNat)) }) ∧
  (∀ (s : State) (d : Ref), s.Live → 0xFFFF < 14 + (s.txRecord d).dataLen.toNat →
    exec (.txTransmitRequest d) s = .next { s with fault := some (.tooLong (14 + (s.txRecord d).dataLen.toNat)) })

/-- 42_dispatcher.md R137, R138: SUBMIT's phase W runs exactly when the frame is sent and the expectation
cleared, and returns the result; till then a resumption changes nothing. -/
def Obligations.SubmitPhaseW : Prop :=
  (∀ (s : State) (rest : List Input) (q : ReqRef), s.Takes .resume rest → s.task.op = .submitWait →
    s.tx.state = .idle → s.corr.expect = .none → s.corr.req = some q →
    step s = .next { s with
      inputs := rest
      task := { s.task with wait := .none, op := .noOp }
      corr := { s.corr with req := none }
      out := { s.out with task := .submitReturned (s.requestResult q) :: s.out.task } }) ∧
  (∀ (s : State) (rest : List Input), s.Takes .resume rest → s.task.op = .submitWait →
    s.tx.state ≠ .idle ∨ s.corr.expect ≠ .none → step s = .next { s with inputs := rest })

/-- 42_dispatcher.md R134, R142: the k-th id issued from reset is ((k - 1) mod 255) + 1, never 0. -/
def Obligations.SequenceIdsWrap : Prop :=
  ∀ k : Nat, 1 ≤ k → (Nat.iterate nextId k State.reset.corr.seqId).toNat = (k - 1) % 255 + 1

/-- 10_state.md R23, R35, 40_transmitter.md R100: only a SUBMIT moves the Transmitter out of Idle or changes
the sequence id, and only while no command is active. -/
def Obligations.OnlySubmitStartsAFrame : Prop :=
  ∀ s t : State, step s = .next t →
    (s.tx.state = .idle ∧ t.tx.state ≠ .idle) ∨ t.corr.seqId ≠ s.corr.seqId →
    s.task.op = .noOp ∧ s.tx.state = .idle ∧ t.tx.state = .frameMark ∧ t.task.op = .submitWait ∧
      t.corr.seqId = nextId s.corr.seqId

/-! Receive Session and Association Tracker -/

/-- 43_receive_session.md R146: a RECEIVE while not associated returns false at once. -/
def Obligations.ReceiveWhenNotAssociated : Prop :=
  ∀ (s : State) (r : Ref), s.Live → s.task.op = .noOp → s.corr.assoc ≠ .associated →
    exec (.receive r) s = .next { s with out := { s.out with task := .receiveReturned false :: s.out.task } }

/-- 43_receive_session.md R144, R147, R148, R149: RECEIVE's phase A while associated: the session is recorded
and pending; a frame in Data is re-pointed, and the bytes it has seen are to be copied. -/
def Obligations.ReceiveOpensTheSession : Prop :=
  (∀ (s : State) (r : Ref), s.Live → s.task.op = .noOp → s.corr.assoc = .associated → s.rx.state ≠ .data →
    exec (.receive r) s = .next { s with
      corr := { s.corr with sess := some r, sessSuccess := false, sessPending := true }
      task := { s.task with copyK := 0, copyC := 0, copyI := 0, op := .recvWait,
                            wait := .awaitingSessionClear } }) ∧
  (∀ (s : State) (r : Ref) (j k c : Nat), s.Live → s.task.op = .noOp → s.corr.assoc = .associated →
    s.rx.state = .data → j = (if 11 < s.rx.count.toNat then s.rx.count.toNat - 11 else 0) →
    k = min j (s.recvRecord r).cap.toNat → c = min k s.rx.limit.toNat →
    ∃ limit : U16, limit.toNat = min s.rx.full.toNat (s.recvRecord r).cap.toNat ∧
      exec (.receive r) s = .next { s with
        rx := { s.rx with state := .dataRequested, limit := limit }
        corr := { s.corr with sess := some r, sessSuccess := false, sessPending := true }
        task := { copyK := BitVec.ofNat 16 k, copyC := BitVec.ofNat 16 c, copyI := 0,
                  op := if 0 < k then .recvCopy else .recvWait,
                  wait := if 0 < k then s.task.wait else .awaitingSessionClear } })

/-- 43_receive_session.md R150, R148: one step of phase B writes one byte: of scratch, or drawn where scratch
lost it; after the last the task waits; an address that is not valid records `FLT_MEM` only. -/
def Obligations.ReceiveCopiesOneByte : Prop :=
  (∀ (s : State) (rest : List Input) (r : Ref) (a : Nat), s.Takes .resume rest → s.task.op = .recvCopy →
    s.corr.sess = some r → a = (s.recvRecord r).bufPtr + s.task.copyI.toNat → addrValid s.params a = true →
    Memory.wf s.mem = true →
    ∃ m, step s = .next { s with
        inputs := rest, mem := m,
        draws := if s.task.copyI.toNat < s.task.copyC.toNat then s.draws else s.draws + 1,
        task := if s.task.copyI + 1 = s.task.copyK then
            { s.task with copyI := s.task.copyI + 1, op := .recvWait, wait := .awaitingSessionClear }
          else { s.task with copyI := s.task.copyI + 1 } } ∧
      Memory.read m a = (if s.task.copyI.toNat < s.task.copyC.toNat then s.scratchByte s.task.copyI.toNat
        else Config.freeByte s.draws) ∧
      ∀ c : Nat, c ≠ a → Memory.read m c = Memory.read s.mem c) ∧
  (∀ (s : State) (rest : List Input) (r : Ref) (a : Nat), s.Takes .resume rest → s.task.op = .recvCopy →
    s.corr.sess = some r → a = (s.recvRecord r).bufPtr + s.task.copyI.toNat → addrValid s.params a = false →
    step s = .next { s with inputs := rest, fault := some (.mem a) })

/-- 43_receive_session.md R151, R152: RECEIVE's phase W runs exactly when the session has ended, and returns
whether a frame was delivered. -/
def Obligations.ReceivePhaseW : Prop :=
  (∀ (s : State) (rest : List Input), s.Takes .resume rest → s.task.op = .recvWait →
    s.corr.sessPending = false →
    step s = .next { s with
      inputs := rest
      task := { s.task with wait := .none, op := .noOp }
      corr := { s.corr with sess := none }
      out := { s.out with task := .receiveReturned s.corr.sessSuccess :: s.out.task } }) ∧
  (∀ (s : State) (rest : List Input), s.Takes .resume rest → s.task.op = .recvWait →
    s.corr.sessPending = true → step s = .next { s with inputs := rest })

/-- 43_receive_session.md R145: ASSOC_READ returns whether the state is Associated, and is busy while a
command is active. -/
def Obligations.AssocReadReturns : Prop :=
  ∀ s : State, s.Live →
    (s.task.op = .noOp → exec .assocRead s = .next { s with
      out := { s.out with task := .assocReturned (s.corr.assoc == .associated) :: s.out.task } }) ∧
    (s.task.op ≠ .noOp → exec .assocRead s = .next { s with fault := some (.busy .assocRead) })

/-- 43_receive_session.md R155: the association state changes only when a modem-status frame completes. -/
def Obligations.OnlyModemStatusChangesAssociation : Prop :=
  ∀ s t : State, step s = .next t → t.corr.assoc ≠ s.corr.assoc →
    s.rx.state = .modemStatus ∧ s.rx.len.toNat ≤ s.rx.count.toNat ∧
      (s.rx.hdr[0] = 0x02 ∧ t.corr.assoc = .associated ∨
       s.rx.hdr[0] = 0x03 ∧ t.corr.assoc = .notAssociated ∧ t.corr.sessPending = false)

/-! Reset, contexts and the invariant -/

/-- 70_reset_and_hazards.md R184: the fields after reset (scratch is unspecified there). -/
def Obligations.ResetValues : Prop :=
  State.reset.tx = { state := .idle, escPending := false, escByte := 0, sum := 0, hdr := Vector.replicate 14 0,
                     hdrLen := 0, pptr := 0, plen := 0, flen := 0, idx := 0 } ∧
  (∃ scratch, State.reset.rx =
    { state := .frameMark, esc := false, len := 0, count := 0, sum := 0, type := 0,
      hdr := Vector.replicate 11 0, full := 0, limit := 0, scratch := scratch }) ∧
  State.reset.corr = { expect := .none, seqId := 0, req := none, sessPending := false, sessSuccess := false,
                       sess := none, assoc := .unknown } ∧
  State.reset.task = { wait := .none, op := .noOp, copyK := 0, copyC := 0, copyI := 0 } ∧
  State.reset.ie = true ∧ State.reset.fault = none

/-- 10_state.md R42, R43: no step changes `ie`: every critical section restores it, on every path. -/
def Obligations.StepsRestoreInterruptEnable : Prop :=
  ∀ s t : State, step s = .next t → t.ie = s.ie

/-- The invariant holds after reset (70_reset_and_hazards.md R184). -/
def Obligations.ResetMeetsInv : Prop := Inv State.reset

/-- Every step keeps the invariant, whatever the environment does (10_state.md R22 to R45, 20_memory.md R52). -/
def Obligations.StepKeepsInv : Prop := ∀ s t : State, Inv s → step s = .next t → Inv t

/-- 60_exceptions.md R158, R161: in a block whose invariant holds and that has no fault, every move of the
environment comes to a next state, bytes that are no operation excepted. -/
def Obligations.EveryMoveComesToANextState : Prop :=
  ∀ s : State, Inv s → s.fault = none →
    (∃ t, step s = .next t) ∨
      ∃ bytes rest e, s.inputs = .operation bytes :: rest ∧ decodeOperation bytes = .error e
end

