-- ==== Sys2Proof/Laws/State.lean ====
section
/-! SUPPORT. What each named update of the state does to each of its fields, so that no proof unfolds one. -/

namespace Sys2Proof.Machine

variable (s : State)

/-! `State.emit` -/

@[simp] theorem State.emit_tx (o : Option Byte) : (s.emit o).tx = s.tx := rfl
@[simp] theorem State.emit_rx (o : Option Byte) : (s.emit o).rx = s.rx := rfl
@[simp] theorem State.emit_corr (o : Option Byte) : (s.emit o).corr = s.corr := rfl
@[simp] theorem State.emit_task (o : Option Byte) : (s.emit o).task = s.task := rfl
@[simp] theorem State.emit_ie (o : Option Byte) : (s.emit o).ie = s.ie := rfl
@[simp] theorem State.emit_fault (o : Option Byte) : (s.emit o).fault = s.fault := rfl
@[simp] theorem State.emit_mem (o : Option Byte) : (s.emit o).mem = s.mem := rfl
@[simp] theorem State.emit_recs (o : Option Byte) : (s.emit o).recs = s.recs := rfl
@[simp] theorem State.emit_params (o : Option Byte) : (s.emit o).params = s.params := rfl
@[simp] theorem State.emit_draws (o : Option Byte) : (s.emit o).draws = s.draws := rfl
@[simp] theorem State.emit_inputs (o : Option Byte) : (s.emit o).inputs = s.inputs := rfl
@[simp] theorem State.emit_held (o : Option Byte) : (s.emit o).held = s.held := rfl
@[simp] theorem State.emit_out (o : Option Byte) : (s.emit o).out = { s.out with pulled := o :: s.out.pulled } := rfl

/-! `State.report` -/

@[simp] theorem State.report_tx (e : TaskEvent) : (s.report e).tx = s.tx := rfl
@[simp] theorem State.report_rx (e : TaskEvent) : (s.report e).rx = s.rx := rfl
@[simp] theorem State.report_corr (e : TaskEvent) : (s.report e).corr = s.corr := rfl
@[simp] theorem State.report_task (e : TaskEvent) : (s.report e).task = s.task := rfl
@[simp] theorem State.report_ie (e : TaskEvent) : (s.report e).ie = s.ie := rfl
@[simp] theorem State.report_fault (e : TaskEvent) : (s.report e).fault = s.fault := rfl
@[simp] theorem State.report_mem (e : TaskEvent) : (s.report e).mem = s.mem := rfl
@[simp] theorem State.report_recs (e : TaskEvent) : (s.report e).recs = s.recs := rfl
@[simp] theorem State.report_params (e : TaskEvent) : (s.report e).params = s.params := rfl
@[simp] theorem State.report_draws (e : TaskEvent) : (s.report e).draws = s.draws := rfl
@[simp] theorem State.report_inputs (e : TaskEvent) : (s.report e).inputs = s.inputs := rfl
@[simp] theorem State.report_held (e : TaskEvent) : (s.report e).held = s.held := rfl
@[simp] theorem State.report_out (e : TaskEvent) : (s.report e).out = { s.out with task := e :: s.out.task } := rfl

/-! `State.note` -/

@[simp] theorem State.note_tx (r : DiscardReason) : (s.note r).tx = s.tx := rfl
@[simp] theorem State.note_rx (r : DiscardReason) : (s.note r).rx = s.rx := rfl
@[simp] theorem State.note_corr (r : DiscardReason) : (s.note r).corr = s.corr := rfl
@[simp] theorem State.note_task (r : DiscardReason) : (s.note r).task = s.task := rfl
@[simp] theorem State.note_ie (r : DiscardReason) : (s.note r).ie = s.ie := rfl
@[simp] theorem State.note_fault (r : DiscardReason) : (s.note r).fault = s.fault := rfl
@[simp] theorem State.note_mem (r : DiscardReason) : (s.note r).mem = s.mem := rfl
@[simp] theorem State.note_recs (r : DiscardReason) : (s.note r).recs = s.recs := rfl
@[simp] theorem State.note_params (r : DiscardReason) : (s.note r).params = s.params := rfl
@[simp] theorem State.note_draws (r : DiscardReason) : (s.note r).draws = s.draws := rfl
@[simp] theorem State.note_inputs (r : DiscardReason) : (s.note r).inputs = s.inputs := rfl
@[simp] theorem State.note_held (r : DiscardReason) : (s.note r).held = s.held := rfl
@[simp] theorem State.note_out (r : DiscardReason) : (s.note r).out = { s.out with discards := r :: s.out.discards } := rfl

/-! `State.raise` -/

@[simp] theorem State.raise_tx (f : FaultCode) : (s.raise f).tx = s.tx := rfl
@[simp] theorem State.raise_rx (f : FaultCode) : (s.raise f).rx = s.rx := rfl
@[simp] theorem State.raise_corr (f : FaultCode) : (s.raise f).corr = s.corr := rfl
@[simp] theorem State.raise_task (f : FaultCode) : (s.raise f).task = s.task := rfl
@[simp] theorem State.raise_ie (f : FaultCode) : (s.raise f).ie = s.ie := rfl
@[simp] theorem State.raise_fault (f : FaultCode) : (s.raise f).fault = some f := rfl
@[simp] theorem State.raise_mem (f : FaultCode) : (s.raise f).mem = s.mem := rfl
@[simp] theorem State.raise_recs (f : FaultCode) : (s.raise f).recs = s.recs := rfl
@[simp] theorem State.raise_params (f : FaultCode) : (s.raise f).params = s.params := rfl
@[simp] theorem State.raise_draws (f : FaultCode) : (s.raise f).draws = s.draws := rfl
@[simp] theorem State.raise_inputs (f : FaultCode) : (s.raise f).inputs = s.inputs := rfl
@[simp] theorem State.raise_held (f : FaultCode) : (s.raise f).held = s.held := rfl
@[simp] theorem State.raise_out (f : FaultCode) : (s.raise f).out = s.out := rfl

/-! `State.setAtRecord` -/

@[simp] theorem State.setAtRecord_tx (d : Ref) (v : AtRecord) : (s.setAtRecord d v).tx = s.tx := rfl
@[simp] theorem State.setAtRecord_rx (d : Ref) (v : AtRecord) : (s.setAtRecord d v).rx = s.rx := rfl
@[simp] theorem State.setAtRecord_corr (d : Ref) (v : AtRecord) : (s.setAtRecord d v).corr = s.corr := rfl
@[simp] theorem State.setAtRecord_task (d : Ref) (v : AtRecord) : (s.setAtRecord d v).task = s.task := rfl
@[simp] theorem State.setAtRecord_ie (d : Ref) (v : AtRecord) : (s.setAtRecord d v).ie = s.ie := rfl
@[simp] theorem State.setAtRecord_fault (d : Ref) (v : AtRecord) : (s.setAtRecord d v).fault = s.fault := rfl
@[simp] theorem State.setAtRecord_mem (d : Ref) (v : AtRecord) : (s.setAtRecord d v).mem = s.mem := rfl
@[simp] theorem State.setAtRecord_recs (d : Ref) (v : AtRecord) : (s.setAtRecord d v).recs = { s.recs with atCmds := tableSet AtRecord.zero s.recs.atCmds d.toNat v } := rfl
@[simp] theorem State.setAtRecord_params (d : Ref) (v : AtRecord) : (s.setAtRecord d v).params = s.params := rfl
@[simp] theorem State.setAtRecord_draws (d : Ref) (v : AtRecord) : (s.setAtRecord d v).draws = s.draws := rfl
@[simp] theorem State.setAtRecord_inputs (d : Ref) (v : AtRecord) : (s.setAtRecord d v).inputs = s.inputs := rfl
@[simp] theorem State.setAtRecord_held (d : Ref) (v : AtRecord) : (s.setAtRecord d v).held = s.held := rfl
@[simp] theorem State.setAtRecord_out (d : Ref) (v : AtRecord) : (s.setAtRecord d v).out = s.out := rfl

/-! `State.setTxRecord` -/

@[simp] theorem State.setTxRecord_tx (d : Ref) (v : TxRecord) : (s.setTxRecord d v).tx = s.tx := rfl
@[simp] theorem State.setTxRecord_rx (d : Ref) (v : TxRecord) : (s.setTxRecord d v).rx = s.rx := rfl
@[simp] theorem State.setTxRecord_corr (d : Ref) (v : TxRecord) : (s.setTxRecord d v).corr = s.corr := rfl
@[simp] theorem State.setTxRecord_task (d : Ref) (v : TxRecord) : (s.setTxRecord d v).task = s.task := rfl
@[simp] theorem State.setTxRecord_ie (d : Ref) (v : TxRecord) : (s.setTxRecord d v).ie = s.ie := rfl
@[simp] theorem State.setTxRecord_fault (d : Ref) (v : TxRecord) : (s.setTxRecord d v).fault = s.fault := rfl
@[simp] theorem State.setTxRecord_mem (d : Ref) (v : TxRecord) : (s.setTxRecord d v).mem = s.mem := rfl
@[simp] theorem State.setTxRecord_recs (d : Ref) (v : TxRecord) : (s.setTxRecord d v).recs = { s.recs with txDatas := tableSet TxRecord.zero s.recs.txDatas d.toNat v } := rfl
@[simp] theorem State.setTxRecord_params (d : Ref) (v : TxRecord) : (s.setTxRecord d v).params = s.params := rfl
@[simp] theorem State.setTxRecord_draws (d : Ref) (v : TxRecord) : (s.setTxRecord d v).draws = s.draws := rfl
@[simp] theorem State.setTxRecord_inputs (d : Ref) (v : TxRecord) : (s.setTxRecord d v).inputs = s.inputs := rfl
@[simp] theorem State.setTxRecord_held (d : Ref) (v : TxRecord) : (s.setTxRecord d v).held = s.held := rfl
@[simp] theorem State.setTxRecord_out (d : Ref) (v : TxRecord) : (s.setTxRecord d v).out = s.out := rfl

/-! `State.setRecvRecord` -/

@[simp] theorem State.setRecvRecord_tx (d : Ref) (v : RecvRecord) : (s.setRecvRecord d v).tx = s.tx := rfl
@[simp] theorem State.setRecvRecord_rx (d : Ref) (v : RecvRecord) : (s.setRecvRecord d v).rx = s.rx := rfl
@[simp] theorem State.setRecvRecord_corr (d : Ref) (v : RecvRecord) : (s.setRecvRecord d v).corr = s.corr := rfl
@[simp] theorem State.setRecvRecord_task (d : Ref) (v : RecvRecord) : (s.setRecvRecord d v).task = s.task := rfl
@[simp] theorem State.setRecvRecord_ie (d : Ref) (v : RecvRecord) : (s.setRecvRecord d v).ie = s.ie := rfl
@[simp] theorem State.setRecvRecord_fault (d : Ref) (v : RecvRecord) : (s.setRecvRecord d v).fault = s.fault := rfl
@[simp] theorem State.setRecvRecord_mem (d : Ref) (v : RecvRecord) : (s.setRecvRecord d v).mem = s.mem := rfl
@[simp] theorem State.setRecvRecord_recs (d : Ref) (v : RecvRecord) : (s.setRecvRecord d v).recs = { s.recs with recvs := tableSet RecvRecord.zero s.recs.recvs d.toNat v } := rfl
@[simp] theorem State.setRecvRecord_params (d : Ref) (v : RecvRecord) : (s.setRecvRecord d v).params = s.params := rfl
@[simp] theorem State.setRecvRecord_draws (d : Ref) (v : RecvRecord) : (s.setRecvRecord d v).draws = s.draws := rfl
@[simp] theorem State.setRecvRecord_inputs (d : Ref) (v : RecvRecord) : (s.setRecvRecord d v).inputs = s.inputs := rfl
@[simp] theorem State.setRecvRecord_held (d : Ref) (v : RecvRecord) : (s.setRecvRecord d v).held = s.held := rfl
@[simp] theorem State.setRecvRecord_out (d : Ref) (v : RecvRecord) : (s.setRecvRecord d v).out = s.out := rfl

/-! `State.sendEscaped` -/

@[simp] theorem State.sendEscaped_tx (b : Byte) : (s.sendEscaped b).tx = { s.tx with escPending := true, escByte := b } := rfl
@[simp] theorem State.sendEscaped_rx (b : Byte) : (s.sendEscaped b).rx = s.rx := rfl
@[simp] theorem State.sendEscaped_corr (b : Byte) : (s.sendEscaped b).corr = s.corr := rfl
@[simp] theorem State.sendEscaped_task (b : Byte) : (s.sendEscaped b).task = s.task := rfl
@[simp] theorem State.sendEscaped_ie (b : Byte) : (s.sendEscaped b).ie = s.ie := rfl
@[simp] theorem State.sendEscaped_fault (b : Byte) : (s.sendEscaped b).fault = s.fault := rfl
@[simp] theorem State.sendEscaped_mem (b : Byte) : (s.sendEscaped b).mem = s.mem := rfl
@[simp] theorem State.sendEscaped_recs (b : Byte) : (s.sendEscaped b).recs = s.recs := rfl
@[simp] theorem State.sendEscaped_params (b : Byte) : (s.sendEscaped b).params = s.params := rfl
@[simp] theorem State.sendEscaped_draws (b : Byte) : (s.sendEscaped b).draws = s.draws := rfl
@[simp] theorem State.sendEscaped_inputs (b : Byte) : (s.sendEscaped b).inputs = s.inputs := rfl
@[simp] theorem State.sendEscaped_held (b : Byte) : (s.sendEscaped b).held = s.held := rfl
@[simp] theorem State.sendEscaped_out (b : Byte) : (s.sendEscaped b).out = { s.out with pulled := some 0x7D :: s.out.pulled } := rfl

/-! `State.setRxState` -/

@[simp] theorem State.setRxState_tx (v : RxState) : (s.setRxState v).tx = s.tx := rfl
@[simp] theorem State.setRxState_rx (v : RxState) : (s.setRxState v).rx = { s.rx with state := v } := rfl
@[simp] theorem State.setRxState_corr (v : RxState) : (s.setRxState v).corr = s.corr := rfl
@[simp] theorem State.setRxState_task (v : RxState) : (s.setRxState v).task = s.task := rfl
@[simp] theorem State.setRxState_ie (v : RxState) : (s.setRxState v).ie = s.ie := rfl
@[simp] theorem State.setRxState_fault (v : RxState) : (s.setRxState v).fault = s.fault := rfl
@[simp] theorem State.setRxState_mem (v : RxState) : (s.setRxState v).mem = s.mem := rfl
@[simp] theorem State.setRxState_recs (v : RxState) : (s.setRxState v).recs = s.recs := rfl
@[simp] theorem State.setRxState_params (v : RxState) : (s.setRxState v).params = s.params := rfl
@[simp] theorem State.setRxState_draws (v : RxState) : (s.setRxState v).draws = s.draws := rfl
@[simp] theorem State.setRxState_inputs (v : RxState) : (s.setRxState v).inputs = s.inputs := rfl
@[simp] theorem State.setRxState_held (v : RxState) : (s.setRxState v).held = s.held := rfl
@[simp] theorem State.setRxState_out (v : RxState) : (s.setRxState v).out = s.out := rfl

/-! `State.discard` -/

@[simp] theorem State.discard_tx (r : DiscardReason) : (s.discard r).tx = s.tx := rfl
@[simp] theorem State.discard_rx (r : DiscardReason) : (s.discard r).rx = { s.rx with state := .frameMark } := rfl
@[simp] theorem State.discard_corr (r : DiscardReason) : (s.discard r).corr = s.corr := rfl
@[simp] theorem State.discard_task (r : DiscardReason) : (s.discard r).task = s.task := rfl
@[simp] theorem State.discard_ie (r : DiscardReason) : (s.discard r).ie = s.ie := rfl
@[simp] theorem State.discard_fault (r : DiscardReason) : (s.discard r).fault = s.fault := rfl
@[simp] theorem State.discard_mem (r : DiscardReason) : (s.discard r).mem = s.mem := rfl
@[simp] theorem State.discard_recs (r : DiscardReason) : (s.discard r).recs = s.recs := rfl
@[simp] theorem State.discard_params (r : DiscardReason) : (s.discard r).params = s.params := rfl
@[simp] theorem State.discard_draws (r : DiscardReason) : (s.discard r).draws = s.draws := rfl
@[simp] theorem State.discard_inputs (r : DiscardReason) : (s.discard r).inputs = s.inputs := rfl
@[simp] theorem State.discard_held (r : DiscardReason) : (s.discard r).held = s.held := rfl
@[simp] theorem State.discard_out (r : DiscardReason) : (s.discard r).out = { s.out with discards := r :: s.out.discards } := rfl

/-! `State.escapeNext` -/

@[simp] theorem State.escapeNext_tx : (s.escapeNext).tx = s.tx := rfl
@[simp] theorem State.escapeNext_rx : (s.escapeNext).rx = { s.rx with esc := true } := rfl
@[simp] theorem State.escapeNext_corr : (s.escapeNext).corr = s.corr := rfl
@[simp] theorem State.escapeNext_task : (s.escapeNext).task = s.task := rfl
@[simp] theorem State.escapeNext_ie : (s.escapeNext).ie = s.ie := rfl
@[simp] theorem State.escapeNext_fault : (s.escapeNext).fault = s.fault := rfl
@[simp] theorem State.escapeNext_mem : (s.escapeNext).mem = s.mem := rfl
@[simp] theorem State.escapeNext_recs : (s.escapeNext).recs = s.recs := rfl
@[simp] theorem State.escapeNext_params : (s.escapeNext).params = s.params := rfl
@[simp] theorem State.escapeNext_draws : (s.escapeNext).draws = s.draws := rfl
@[simp] theorem State.escapeNext_inputs : (s.escapeNext).inputs = s.inputs := rfl
@[simp] theorem State.escapeNext_held : (s.escapeNext).held = s.held := rfl
@[simp] theorem State.escapeNext_out : (s.escapeNext).out = s.out := rfl

/-! `State.escapeDone` -/

@[simp] theorem State.escapeDone_tx : (s.escapeDone).tx = s.tx := rfl
@[simp] theorem State.escapeDone_rx : (s.escapeDone).rx = { s.rx with esc := false } := rfl
@[simp] theorem State.escapeDone_corr : (s.escapeDone).corr = s.corr := rfl
@[simp] theorem State.escapeDone_task : (s.escapeDone).task = s.task := rfl
@[simp] theorem State.escapeDone_ie : (s.escapeDone).ie = s.ie := rfl
@[simp] theorem State.escapeDone_fault : (s.escapeDone).fault = s.fault := rfl
@[simp] theorem State.escapeDone_mem : (s.escapeDone).mem = s.mem := rfl
@[simp] theorem State.escapeDone_recs : (s.escapeDone).recs = s.recs := rfl
@[simp] theorem State.escapeDone_params : (s.escapeDone).params = s.params := rfl
@[simp] theorem State.escapeDone_draws : (s.escapeDone).draws = s.draws := rfl
@[simp] theorem State.escapeDone_inputs : (s.escapeDone).inputs = s.inputs := rfl
@[simp] theorem State.escapeDone_held : (s.escapeDone).held = s.held := rfl
@[simp] theorem State.escapeDone_out : (s.escapeDone).out = s.out := rfl

/-! `State.lengthHigh` -/

@[simp] theorem State.lengthHigh_tx (v : Byte) : (s.lengthHigh v).tx = s.tx := rfl
@[simp] theorem State.lengthHigh_rx (v : Byte) : (s.lengthHigh v).rx = { s.rx with len := pair v 0, state := .length2 } := rfl
@[simp] theorem State.lengthHigh_corr (v : Byte) : (s.lengthHigh v).corr = s.corr := rfl
@[simp] theorem State.lengthHigh_task (v : Byte) : (s.lengthHigh v).task = s.task := rfl
@[simp] theorem State.lengthHigh_ie (v : Byte) : (s.lengthHigh v).ie = s.ie := rfl
@[simp] theorem State.lengthHigh_fault (v : Byte) : (s.lengthHigh v).fault = s.fault := rfl
@[simp] theorem State.lengthHigh_mem (v : Byte) : (s.lengthHigh v).mem = s.mem := rfl
@[simp] theorem State.lengthHigh_recs (v : Byte) : (s.lengthHigh v).recs = s.recs := rfl
@[simp] theorem State.lengthHigh_params (v : Byte) : (s.lengthHigh v).params = s.params := rfl
@[simp] theorem State.lengthHigh_draws (v : Byte) : (s.lengthHigh v).draws = s.draws := rfl
@[simp] theorem State.lengthHigh_inputs (v : Byte) : (s.lengthHigh v).inputs = s.inputs := rfl
@[simp] theorem State.lengthHigh_held (v : Byte) : (s.lengthHigh v).held = s.held := rfl
@[simp] theorem State.lengthHigh_out (v : Byte) : (s.lengthHigh v).out = s.out := rfl

/-! `State.startBody` -/

@[simp] theorem State.startBody_tx (v : Byte) : (s.startBody v).tx = s.tx := rfl
@[simp] theorem State.startBody_rx (v : Byte) : (s.startBody v).rx = { s.rx with type := v, sum := v, count := 0 } := rfl
@[simp] theorem State.startBody_corr (v : Byte) : (s.startBody v).corr = s.corr := rfl
@[simp] theorem State.startBody_task (v : Byte) : (s.startBody v).task = s.task := rfl
@[simp] theorem State.startBody_ie (v : Byte) : (s.startBody v).ie = s.ie := rfl
@[simp] theorem State.startBody_fault (v : Byte) : (s.startBody v).fault = s.fault := rfl
@[simp] theorem State.startBody_mem (v : Byte) : (s.startBody v).mem = s.mem := rfl
@[simp] theorem State.startBody_recs (v : Byte) : (s.startBody v).recs = s.recs := rfl
@[simp] theorem State.startBody_params (v : Byte) : (s.startBody v).params = s.params := rfl
@[simp] theorem State.startBody_draws (v : Byte) : (s.startBody v).draws = s.draws := rfl
@[simp] theorem State.startBody_inputs (v : Byte) : (s.startBody v).inputs = s.inputs := rfl
@[simp] theorem State.startBody_held (v : Byte) : (s.startBody v).held = s.held := rfl
@[simp] theorem State.startBody_out (v : Byte) : (s.startBody v).out = s.out := rfl

/-! `State.countByte` -/

@[simp] theorem State.countByte_tx (v : Byte) : (s.countByte v).tx = s.tx := rfl
@[simp] theorem State.countByte_rx (v : Byte) : (s.countByte v).rx = { s.rx with sum := s.rx.sum + v, count := s.rx.count + 1 } := rfl
@[simp] theorem State.countByte_corr (v : Byte) : (s.countByte v).corr = s.corr := rfl
@[simp] theorem State.countByte_task (v : Byte) : (s.countByte v).task = s.task := rfl
@[simp] theorem State.countByte_ie (v : Byte) : (s.countByte v).ie = s.ie := rfl
@[simp] theorem State.countByte_fault (v : Byte) : (s.countByte v).fault = s.fault := rfl
@[simp] theorem State.countByte_mem (v : Byte) : (s.countByte v).mem = s.mem := rfl
@[simp] theorem State.countByte_recs (v : Byte) : (s.countByte v).recs = s.recs := rfl
@[simp] theorem State.countByte_params (v : Byte) : (s.countByte v).params = s.params := rfl
@[simp] theorem State.countByte_draws (v : Byte) : (s.countByte v).draws = s.draws := rfl
@[simp] theorem State.countByte_inputs (v : Byte) : (s.countByte v).inputs = s.inputs := rfl
@[simp] theorem State.countByte_held (v : Byte) : (s.countByte v).held = s.held := rfl
@[simp] theorem State.countByte_out (v : Byte) : (s.countByte v).out = s.out := rfl

/-! `State.storeHeader` -/

@[simp] theorem State.storeHeader_tx (v : Byte) : (s.storeHeader v).tx = s.tx := rfl
@[simp] theorem State.storeHeader_rx (v : Byte) : (s.storeHeader v).rx = { s.rx with hdr := s.rx.hdr.setIfInBounds s.rx.count.toNat v } := rfl
@[simp] theorem State.storeHeader_corr (v : Byte) : (s.storeHeader v).corr = s.corr := rfl
@[simp] theorem State.storeHeader_task (v : Byte) : (s.storeHeader v).task = s.task := rfl
@[simp] theorem State.storeHeader_ie (v : Byte) : (s.storeHeader v).ie = s.ie := rfl
@[simp] theorem State.storeHeader_fault (v : Byte) : (s.storeHeader v).fault = s.fault := rfl
@[simp] theorem State.storeHeader_mem (v : Byte) : (s.storeHeader v).mem = s.mem := rfl
@[simp] theorem State.storeHeader_recs (v : Byte) : (s.storeHeader v).recs = s.recs := rfl
@[simp] theorem State.storeHeader_params (v : Byte) : (s.storeHeader v).params = s.params := rfl
@[simp] theorem State.storeHeader_draws (v : Byte) : (s.storeHeader v).draws = s.draws := rfl
@[simp] theorem State.storeHeader_inputs (v : Byte) : (s.storeHeader v).inputs = s.inputs := rfl
@[simp] theorem State.storeHeader_held (v : Byte) : (s.storeHeader v).held = s.held := rfl
@[simp] theorem State.storeHeader_out (v : Byte) : (s.storeHeader v).out = s.out := rfl

/-! `State.storeScratch` -/

@[simp] theorem State.storeScratch_tx (j : Nat) (v : Byte) : (s.storeScratch j v).tx = s.tx := rfl
@[simp] theorem State.storeScratch_rx (j : Nat) (v : Byte) : (s.storeScratch j v).rx = { s.rx with scratch := tableSet unlistedByte s.rx.scratch j v } := rfl
@[simp] theorem State.storeScratch_corr (j : Nat) (v : Byte) : (s.storeScratch j v).corr = s.corr := rfl
@[simp] theorem State.storeScratch_task (j : Nat) (v : Byte) : (s.storeScratch j v).task = s.task := rfl
@[simp] theorem State.storeScratch_ie (j : Nat) (v : Byte) : (s.storeScratch j v).ie = s.ie := rfl
@[simp] theorem State.storeScratch_fault (j : Nat) (v : Byte) : (s.storeScratch j v).fault = s.fault := rfl
@[simp] theorem State.storeScratch_mem (j : Nat) (v : Byte) : (s.storeScratch j v).mem = s.mem := rfl
@[simp] theorem State.storeScratch_recs (j : Nat) (v : Byte) : (s.storeScratch j v).recs = s.recs := rfl
@[simp] theorem State.storeScratch_params (j : Nat) (v : Byte) : (s.storeScratch j v).params = s.params := rfl
@[simp] theorem State.storeScratch_draws (j : Nat) (v : Byte) : (s.storeScratch j v).draws = s.draws := rfl
@[simp] theorem State.storeScratch_inputs (j : Nat) (v : Byte) : (s.storeScratch j v).inputs = s.inputs := rfl
@[simp] theorem State.storeScratch_held (j : Nat) (v : Byte) : (s.storeScratch j v).held = s.held := rfl
@[simp] theorem State.storeScratch_out (j : Nat) (v : Byte) : (s.storeScratch j v).out = s.out := rfl

/-! `State.joined` -/

@[simp] theorem State.joined_tx : (s.joined).tx = s.tx := rfl
@[simp] theorem State.joined_rx : (s.joined).rx = s.rx := rfl
@[simp] theorem State.joined_corr : (s.joined).corr = { s.corr with assoc := .associated } := rfl
@[simp] theorem State.joined_task : (s.joined).task = s.task := rfl
@[simp] theorem State.joined_ie : (s.joined).ie = s.ie := rfl
@[simp] theorem State.joined_fault : (s.joined).fault = s.fault := rfl
@[simp] theorem State.joined_mem : (s.joined).mem = s.mem := rfl
@[simp] theorem State.joined_recs : (s.joined).recs = s.recs := rfl
@[simp] theorem State.joined_params : (s.joined).params = s.params := rfl
@[simp] theorem State.joined_draws : (s.joined).draws = s.draws := rfl
@[simp] theorem State.joined_inputs : (s.joined).inputs = s.inputs := rfl
@[simp] theorem State.joined_held : (s.joined).held = s.held := rfl
@[simp] theorem State.joined_out : (s.joined).out = s.out := rfl

/-! `State.left` -/

@[simp] theorem State.left_tx : (s.left).tx = s.tx := rfl
@[simp] theorem State.left_rx : (s.left).rx = s.rx := rfl
@[simp] theorem State.left_corr : (s.left).corr = { s.corr with assoc := .notAssociated, sessPending := false } := rfl
@[simp] theorem State.left_task : (s.left).task = s.task := rfl
@[simp] theorem State.left_ie : (s.left).ie = s.ie := rfl
@[simp] theorem State.left_fault : (s.left).fault = s.fault := rfl
@[simp] theorem State.left_mem : (s.left).mem = s.mem := rfl
@[simp] theorem State.left_recs : (s.left).recs = s.recs := rfl
@[simp] theorem State.left_params : (s.left).params = s.params := rfl
@[simp] theorem State.left_draws : (s.left).draws = s.draws := rfl
@[simp] theorem State.left_inputs : (s.left).inputs = s.inputs := rfl
@[simp] theorem State.left_held : (s.left).held = s.held := rfl
@[simp] theorem State.left_out : (s.left).out = s.out := rfl

/-! `State.clearExpect` -/

@[simp] theorem State.clearExpect_tx : (s.clearExpect).tx = s.tx := rfl
@[simp] theorem State.clearExpect_rx : (s.clearExpect).rx = s.rx := rfl
@[simp] theorem State.clearExpect_corr : (s.clearExpect).corr = { s.corr with expect := .none } := rfl
@[simp] theorem State.clearExpect_task : (s.clearExpect).task = s.task := rfl
@[simp] theorem State.clearExpect_ie : (s.clearExpect).ie = s.ie := rfl
@[simp] theorem State.clearExpect_fault : (s.clearExpect).fault = s.fault := rfl
@[simp] theorem State.clearExpect_mem : (s.clearExpect).mem = s.mem := rfl
@[simp] theorem State.clearExpect_recs : (s.clearExpect).recs = s.recs := rfl
@[simp] theorem State.clearExpect_params : (s.clearExpect).params = s.params := rfl
@[simp] theorem State.clearExpect_draws : (s.clearExpect).draws = s.draws := rfl
@[simp] theorem State.clearExpect_inputs : (s.clearExpect).inputs = s.inputs := rfl
@[simp] theorem State.clearExpect_held : (s.clearExpect).held = s.held := rfl
@[simp] theorem State.clearExpect_out : (s.clearExpect).out = s.out := rfl

/-! `State.issueId` -/

@[simp] theorem State.issueId_tx : (s.issueId).tx = s.tx := rfl
@[simp] theorem State.issueId_rx : (s.issueId).rx = s.rx := rfl
@[simp] theorem State.issueId_corr : (s.issueId).corr = { s.corr with seqId := nextId s.corr.seqId } := rfl
@[simp] theorem State.issueId_task : (s.issueId).task = s.task := rfl
@[simp] theorem State.issueId_ie : (s.issueId).ie = s.ie := rfl
@[simp] theorem State.issueId_fault : (s.issueId).fault = s.fault := rfl
@[simp] theorem State.issueId_mem : (s.issueId).mem = s.mem := rfl
@[simp] theorem State.issueId_recs : (s.issueId).recs = s.recs := rfl
@[simp] theorem State.issueId_params : (s.issueId).params = s.params := rfl
@[simp] theorem State.issueId_draws : (s.issueId).draws = s.draws := rfl
@[simp] theorem State.issueId_inputs : (s.issueId).inputs = s.inputs := rfl
@[simp] theorem State.issueId_held : (s.issueId).held = s.held := rfl
@[simp] theorem State.issueId_out : (s.issueId).out = s.out := rfl

/-! `State.loadAtCommand` -/

@[simp] theorem State.loadAtCommand_tx (d : AtRecord) : (s.loadAtCommand d).tx = { s.tx with
      hdr := atHeader s.tx.hdr s.corr.seqId d.cmd0 d.cmd1, hdrLen := 4,
      pptr := d.outPtr, plen := d.outLen, flen := 4 + d.outLen, idx := 0 } := rfl
@[simp] theorem State.loadAtCommand_rx (d : AtRecord) : (s.loadAtCommand d).rx = s.rx := rfl
@[simp] theorem State.loadAtCommand_corr (d : AtRecord) : (s.loadAtCommand d).corr = s.corr := rfl
@[simp] theorem State.loadAtCommand_task (d : AtRecord) : (s.loadAtCommand d).task = s.task := rfl
@[simp] theorem State.loadAtCommand_ie (d : AtRecord) : (s.loadAtCommand d).ie = s.ie := rfl
@[simp] theorem State.loadAtCommand_fault (d : AtRecord) : (s.loadAtCommand d).fault = s.fault := rfl
@[simp] theorem State.loadAtCommand_mem (d : AtRecord) : (s.loadAtCommand d).mem = s.mem := rfl
@[simp] theorem State.loadAtCommand_recs (d : AtRecord) : (s.loadAtCommand d).recs = s.recs := rfl
@[simp] theorem State.loadAtCommand_params (d : AtRecord) : (s.loadAtCommand d).params = s.params := rfl
@[simp] theorem State.loadAtCommand_draws (d : AtRecord) : (s.loadAtCommand d).draws = s.draws := rfl
@[simp] theorem State.loadAtCommand_inputs (d : AtRecord) : (s.loadAtCommand d).inputs = s.inputs := rfl
@[simp] theorem State.loadAtCommand_held (d : AtRecord) : (s.loadAtCommand d).held = s.held := rfl
@[simp] theorem State.loadAtCommand_out (d : AtRecord) : (s.loadAtCommand d).out = s.out := rfl

/-! `State.loadTransmitRequest` -/

@[simp] theorem State.loadTransmitRequest_tx (d : TxRecord) : (s.loadTransmitRequest d).tx = { s.tx with
      hdr := transmitHeader s.corr.seqId d.addr64 d.addr16 s.params.txRadius s.params.txOptions, hdrLen := 14,
      pptr := d.dataPtr, plen := d.dataLen, flen := 14 + d.dataLen, idx := 0 } := rfl
@[simp] theorem State.loadTransmitRequest_rx (d : TxRecord) : (s.loadTransmitRequest d).rx = s.rx := rfl
@[simp] theorem State.loadTransmitRequest_corr (d : TxRecord) : (s.loadTransmitRequest d).corr = s.corr := rfl
@[simp] theorem State.loadTransmitRequest_task (d : TxRecord) : (s.loadTransmitRequest d).task = s.task := rfl
@[simp] theorem State.loadTransmitRequest_ie (d : TxRecord) : (s.loadTransmitRequest d).ie = s.ie := rfl
@[simp] theorem State.loadTransmitRequest_fault (d : TxRecord) : (s.loadTransmitRequest d).fault = s.fault := rfl
@[simp] theorem State.loadTransmitRequest_mem (d : TxRecord) : (s.loadTransmitRequest d).mem = s.mem := rfl
@[simp] theorem State.loadTransmitRequest_recs (d : TxRecord) : (s.loadTransmitRequest d).recs = s.recs := rfl
@[simp] theorem State.loadTransmitRequest_params (d : TxRecord) : (s.loadTransmitRequest d).params = s.params := rfl
@[simp] theorem State.loadTransmitRequest_draws (d : TxRecord) : (s.loadTransmitRequest d).draws = s.draws := rfl
@[simp] theorem State.loadTransmitRequest_inputs (d : TxRecord) : (s.loadTransmitRequest d).inputs = s.inputs := rfl
@[simp] theorem State.loadTransmitRequest_held (d : TxRecord) : (s.loadTransmitRequest d).held = s.held := rfl
@[simp] theorem State.loadTransmitRequest_out (d : TxRecord) : (s.loadTransmitRequest d).out = s.out := rfl

/-! `State.startRequest` -/

@[simp] theorem State.startRequest_tx (q : ReqRef) (e : Expect) : (s.startRequest q e).tx = { s.tx with state := .frameMark } := rfl
@[simp] theorem State.startRequest_rx (q : ReqRef) (e : Expect) : (s.startRequest q e).rx = s.rx := rfl
@[simp] theorem State.startRequest_corr (q : ReqRef) (e : Expect) : (s.startRequest q e).corr = { s.corr with req := some q, expect := e } := rfl
@[simp] theorem State.startRequest_task (q : ReqRef) (e : Expect) : (s.startRequest q e).task = { s.task with wait := .awaitingIdleAndResponse, op := .submitWait } := rfl
@[simp] theorem State.startRequest_ie (q : ReqRef) (e : Expect) : (s.startRequest q e).ie = s.ie := rfl
@[simp] theorem State.startRequest_fault (q : ReqRef) (e : Expect) : (s.startRequest q e).fault = s.fault := rfl
@[simp] theorem State.startRequest_mem (q : ReqRef) (e : Expect) : (s.startRequest q e).mem = s.mem := rfl
@[simp] theorem State.startRequest_recs (q : ReqRef) (e : Expect) : (s.startRequest q e).recs = s.recs := rfl
@[simp] theorem State.startRequest_params (q : ReqRef) (e : Expect) : (s.startRequest q e).params = s.params := rfl
@[simp] theorem State.startRequest_draws (q : ReqRef) (e : Expect) : (s.startRequest q e).draws = s.draws := rfl
@[simp] theorem State.startRequest_inputs (q : ReqRef) (e : Expect) : (s.startRequest q e).inputs = s.inputs := rfl
@[simp] theorem State.startRequest_held (q : ReqRef) (e : Expect) : (s.startRequest q e).held = s.held := rfl
@[simp] theorem State.startRequest_out (q : ReqRef) (e : Expect) : (s.startRequest q e).out = { s.out with task := .kick :: s.out.task } := rfl

/-! `State.txEsc`: a special value is sent as a pair, any other as itself (R99). -/

@[simp] theorem State.txEsc_rx (raw : Byte) : (s.txEsc raw).rx = s.rx := by
  unfold State.txEsc; split <;> rfl
@[simp] theorem State.txEsc_corr (raw : Byte) : (s.txEsc raw).corr = s.corr := by
  unfold State.txEsc; split <;> rfl
@[simp] theorem State.txEsc_task (raw : Byte) : (s.txEsc raw).task = s.task := by
  unfold State.txEsc; split <;> rfl
@[simp] theorem State.txEsc_ie (raw : Byte) : (s.txEsc raw).ie = s.ie := by
  unfold State.txEsc; split <;> rfl
@[simp] theorem State.txEsc_fault (raw : Byte) : (s.txEsc raw).fault = s.fault := by
  unfold State.txEsc; split <;> rfl
@[simp] theorem State.txEsc_mem (raw : Byte) : (s.txEsc raw).mem = s.mem := by
  unfold State.txEsc; split <;> rfl
@[simp] theorem State.txEsc_recs (raw : Byte) : (s.txEsc raw).recs = s.recs := by
  unfold State.txEsc; split <;> rfl
@[simp] theorem State.txEsc_params (raw : Byte) : (s.txEsc raw).params = s.params := by
  unfold State.txEsc; split <;> rfl
@[simp] theorem State.txEsc_draws (raw : Byte) : (s.txEsc raw).draws = s.draws := by
  unfold State.txEsc; split <;> rfl
@[simp] theorem State.txEsc_inputs (raw : Byte) : (s.txEsc raw).inputs = s.inputs := by
  unfold State.txEsc; split <;> rfl
@[simp] theorem State.txEsc_held (raw : Byte) : (s.txEsc raw).held = s.held := by
  unfold State.txEsc; split <;> rfl

@[simp] theorem State.txEsc_out (raw : Byte) :
    (s.txEsc raw).out = { s.out with pulled := some (if isSpecial raw then 0x7D else raw) :: s.out.pulled } := by
  unfold State.txEsc; split <;> simp
@[simp] theorem State.txEsc_tx (raw : Byte) :
    (s.txEsc raw).tx =
      if isSpecial raw then { s.tx with escPending := true, escByte := escapeMask raw } else s.tx := by
  unfold State.txEsc; split <;> simp

theorem State.txEsc_special (raw : Byte) (h : isSpecial raw = true) :
    s.txEsc raw = s.sendEscaped (escapeMask raw) := by simp [State.txEsc, h]

theorem State.txEsc_plain (raw : Byte) (h : isSpecial raw = false) : s.txEsc raw = s.emit (some raw) := by
  simp [State.txEsc, h]

/-! `State.resync` (R105). -/

@[simp] theorem State.resync_rx :
    s.resync.rx = { s.rx with state := .length1, esc := false, count := 0, sum := 0 } := by
  unfold State.resync; split <;> rfl
@[simp] theorem State.resync_tx : s.resync.tx = s.tx := by
  unfold State.resync; split <;> rfl
@[simp] theorem State.resync_corr : s.resync.corr = s.corr := by
  unfold State.resync; split <;> rfl
@[simp] theorem State.resync_task : s.resync.task = s.task := by
  unfold State.resync; split <;> rfl
@[simp] theorem State.resync_ie : s.resync.ie = s.ie := by
  unfold State.resync; split <;> rfl
@[simp] theorem State.resync_fault : s.resync.fault = s.fault := by
  unfold State.resync; split <;> rfl
@[simp] theorem State.resync_mem : s.resync.mem = s.mem := by
  unfold State.resync; split <;> rfl
@[simp] theorem State.resync_recs : s.resync.recs = s.recs := by
  unfold State.resync; split <;> rfl
@[simp] theorem State.resync_params : s.resync.params = s.params := by
  unfold State.resync; split <;> rfl
@[simp] theorem State.resync_draws : s.resync.draws = s.draws := by
  unfold State.resync; split <;> rfl
@[simp] theorem State.resync_inputs : s.resync.inputs = s.inputs := by
  unfold State.resync; split <;> rfl
@[simp] theorem State.resync_held : s.resync.held = s.held := by
  unfold State.resync; split <;> rfl

/-! `State.setRequestResult` writes caller-owned records only (R36). -/

@[simp] theorem State.setRequestResult_tx (q : ReqRef) (v : Byte) : (s.setRequestResult q v).tx = s.tx := by
  cases q <;> rfl
@[simp] theorem State.setRequestResult_rx (q : ReqRef) (v : Byte) : (s.setRequestResult q v).rx = s.rx := by
  cases q <;> rfl
@[simp] theorem State.setRequestResult_corr (q : ReqRef) (v : Byte) : (s.setRequestResult q v).corr = s.corr := by
  cases q <;> rfl
@[simp] theorem State.setRequestResult_task (q : ReqRef) (v : Byte) : (s.setRequestResult q v).task = s.task := by
  cases q <;> rfl
@[simp] theorem State.setRequestResult_ie (q : ReqRef) (v : Byte) : (s.setRequestResult q v).ie = s.ie := by
  cases q <;> rfl
@[simp] theorem State.setRequestResult_fault (q : ReqRef) (v : Byte) : (s.setRequestResult q v).fault = s.fault := by
  cases q <;> rfl
@[simp] theorem State.setRequestResult_mem (q : ReqRef) (v : Byte) : (s.setRequestResult q v).mem = s.mem := by
  cases q <;> rfl
@[simp] theorem State.setRequestResult_params (q : ReqRef) (v : Byte) : (s.setRequestResult q v).params = s.params := by
  cases q <;> rfl
@[simp] theorem State.setRequestResult_draws (q : ReqRef) (v : Byte) : (s.setRequestResult q v).draws = s.draws := by
  cases q <;> rfl
@[simp] theorem State.setRequestResult_inputs (q : ReqRef) (v : Byte) : (s.setRequestResult q v).inputs = s.inputs := by
  cases q <;> rfl
@[simp] theorem State.setRequestResult_held (q : ReqRef) (v : Byte) : (s.setRequestResult q v).held = s.held := by
  cases q <;> rfl
@[simp] theorem State.setRequestResult_out (q : ReqRef) (v : Byte) : (s.setRequestResult q v).out = s.out := by
  cases q <;> rfl

end Sys2Proof.Machine
end

