-- ==== Sys2Proof/Laws/Table.lean ====
section
/-! SUPPORT. Tables, external memory and records: a read after a write, a write leaves every other place
alone, and the canonical form is kept. -/

namespace Sys2Proof.Machine

section
variable {α : Type} [DecidableEq α] (d : α)

theorem tableGet_of_wfFrom (t : List (Nat × α)) (lo a : Nat) (h : tableWfFrom d lo t = true) (ha : a < lo) :
    tableGet d t a = d := by
  induction t generalizing lo with
  | nil => rfl
  | cons e t ih =>
    obtain ⟨k, w⟩ := e
    simp only [tableWfFrom, Bool.and_eq_true, decide_eq_true_eq] at h
    have hne : a ≠ k := by omega
    simpa [tableGet, hne] using ih (k + 1) h.2 (by omega)

/-- A read after a write to the same key gives the value written. -/
theorem tableGet_set_same (t : List (Nat × α)) (lo a : Nat) (v : α) (h : tableWfFrom d lo t = true) :
    tableGet d (tableSet d t a v) a = v := by
  induction t generalizing lo with
  | nil => by_cases hv : v = d <;> simp [tableSet, tableGet, hv]
  | cons e t ih =>
    obtain ⟨k, w⟩ := e
    have h' := h
    simp only [tableWfFrom, Bool.and_eq_true, decide_eq_true_eq] at h'
    by_cases h1 : a < k
    · by_cases hv : v = d
      · have := tableGet_of_wfFrom d ((k, w) :: t) k a
          (by simp only [tableWfFrom, Bool.and_eq_true, decide_eq_true_eq]; exact ⟨⟨le_refl k, h'.1.2⟩, h'.2⟩) h1
        simp [tableSet, h1, hv, this]
      · simp [tableSet, h1, hv, tableGet]
    · by_cases h2 : a = k
      · by_cases hv : v = d
        · have := tableGet_of_wfFrom d t (k + 1) k h'.2 (by omega)
          simp [tableSet, h2, hv, this]
        · simp [tableSet, h2, hv, tableGet]
      · simpa [tableSet, h1, h2, tableGet] using ih (k + 1) h'.2

/-- A write leaves every other key alone. -/
theorem tableGet_set_other (t : List (Nat × α)) (a b : Nat) (v : α) (h : b ≠ a) :
    tableGet d (tableSet d t a v) b = tableGet d t b := by
  induction t with
  | nil => by_cases hv : v = d <;> simp [tableSet, tableGet, hv, h]
  | cons e t ih =>
    obtain ⟨k, w⟩ := e
    by_cases h1 : a < k
    · by_cases hv : v = d <;> simp [tableSet, tableGet, h1, hv, h]
    · by_cases h2 : a = k
      · subst h2
        by_cases hv : v = d <;> simp [tableSet, tableGet, hv, h]
      · simp [tableSet, tableGet, h1, h2, ih]

/-- A write keeps the canonical form. -/
theorem tableSet_wfFrom (t : List (Nat × α)) (lo a : Nat) (v : α) (h : tableWfFrom d lo t = true) (ha : lo ≤ a) :
    tableWfFrom d lo (tableSet d t a v) = true := by
  induction t generalizing lo with
  | nil => by_cases hv : v = d <;> simp [tableSet, tableWfFrom, hv, ha]
  | cons e t ih =>
    obtain ⟨k, w⟩ := e
    have h' := h
    simp only [tableWfFrom, Bool.and_eq_true, decide_eq_true_eq] at h'
    by_cases h1 : a < k
    · by_cases hv : v = d
      · simp [tableSet, h1, hv, h]
      · simp [tableSet, hv, tableWfFrom, ha, h'.1.2, h'.2, h1]
    · by_cases h2 : a = k
      · by_cases hv : v = d
        · have : tableWfFrom d lo t = true := by
            cases t with
            | nil => rfl
            | cons e' t' =>
              obtain ⟨k', w'⟩ := e'
              have h3 := h'.2
              simp only [tableWfFrom, Bool.and_eq_true, decide_eq_true_eq] at h3 ⊢
              exact ⟨⟨by omega, h3.1.2⟩, h3.2⟩
          simp [tableSet, h2, hv, this]
        · simp [tableSet, h2, hv, tableWfFrom, h'.1.1, h'.2]
      · simp [tableSet, h1, h2, tableWfFrom, h'.1.1, h'.1.2, ih (k + 1) h'.2 (by omega)]

/-- A write keeps the canonical form. -/
theorem tableSet_wf (t : List (Nat × α)) (a : Nat) (v : α) (h : tableWf d t = true) :
    tableWf d (tableSet d t a v) = true := tableSet_wfFrom d t 0 a v h (Nat.zero_le a)

/-- The entries of a table after a write: the key written, and entries that were there. -/
theorem mem_tableSet (t : List (Nat × α)) (a : Nat) (v : α) (c : Nat × α) (h : c ∈ tableSet d t a v) :
    c.1 = a ∨ c ∈ t := by
  induction t with
  | nil =>
    by_cases hv : v = d
    · simp [tableSet, hv] at h
    · simp only [tableSet, hv, if_false, List.mem_singleton] at h
      exact .inl (by rw [h])
  | cons e t ih =>
    obtain ⟨k, w⟩ := e
    simp only [tableSet] at h
    split at h
    · split at h
      · exact .inr h
      · rcases List.mem_cons.mp h with h | h
        · exact .inl (by rw [h])
        · exact .inr h
    · split at h
      · rename_i hk
        split at h
        · exact .inr (List.mem_cons_of_mem _ h)
        · rcases List.mem_cons.mp h with h | h
          · exact .inl (by rw [h]; exact hk.symm)
          · exact .inr (List.mem_cons_of_mem _ h)
      · rcases List.mem_cons.mp h with h | h
        · exact .inr (by rw [h]; exact List.mem_cons_self)
        · rcases ih h with h | h
          · exact .inl h
          · exact .inr (List.mem_cons_of_mem _ h)
end

/-! External memory. -/

/-- A byte read after it is written is the byte written. -/
theorem Memory.read_write_same (m : List Host.Cell) (a : Nat) (v : Byte) (h : Memory.wf m = true) :
    Memory.read (Memory.write m a v) a = v := tableGet_set_same unlistedByte m 0 a v h

/-- A write leaves every other byte alone (R59). -/
theorem Memory.read_write_other (m : List Host.Cell) (a b : Nat) (v : Byte) (h : b ≠ a) :
    Memory.read (Memory.write m a v) b = Memory.read m b := tableGet_set_other unlistedByte m a b v h

/-- A write keeps the canonical form. -/
theorem Memory.write_wf (m : List Host.Cell) (a : Nat) (v : Byte) (h : Memory.wf m = true) :
    Memory.wf (Memory.write m a v) = true := tableSet_wf unlistedByte m a v h

/-- Memory after reset is in canonical form. -/
theorem Memory.reset_wf : Memory.wf State.reset.mem = true := rfl

/-- Everything a memory write can do (R13, R52). -/
theorem State.memWrite_eq_some (s t : State) (a : Nat) (v : Byte) :
    s.memWrite a v = some t ↔ addrValid s.params a = true ∧ t = { s with mem := Memory.write s.mem a v } := by
  unfold State.memWrite
  split <;> rename_i h <;> simp [h, @eq_comm _ t]

/-- When a memory write raises `FLT_MEM` (R52). -/
theorem State.memWrite_eq_none (s : State) (a : Nat) (v : Byte) :
    s.memWrite a v = none ↔ addrValid s.params a = false := by
  unfold State.memWrite
  split <;> simp_all

/-- Everything a memory read can do (R13, R52). -/
theorem State.memRead_eq_some (s : State) (a : Nat) (v : Byte) :
    s.memRead a = some v ↔ addrValid s.params a = true ∧ v = Memory.read s.mem a := by
  unfold State.memRead
  split <;> rename_i h <;> simp [h, @eq_comm _ v]

/-- When a memory read raises `FLT_MEM` (R52). -/
theorem State.memRead_eq_none (s : State) (a : Nat) : s.memRead a = none ↔ addrValid s.params a = false := by
  unfold State.memRead
  split <;> simp_all

end Sys2Proof.Machine
end

