-- ==== Sys2Proof/Laws/Ops.lean ====
section
/-! SUPPORT. What the shared operations of a step can do: taking a fault, delivering a byte event, running a
phase of the task, the critical section, and the drawn in_buffer. -/

namespace Sys2Proof.Machine

variable (s t : State)

/-- A step that ran to its end. -/
@[simp] theorem settle_ok : settle s (.ok t) = .next t := rfl

/-- A step that raised records the fault and changes nothing else (R161). -/
@[simp] theorem settle_raise (f : FaultCode) : settle s (.raise f) = .next (s.raise f) := rfl

@[simp] theorem settle_stop (r : Fault) : settle s (.stop r) = .fault r := rfl

/-- Everything a settled step can be. -/
theorem settle_eq_next (r : Res) :
    settle s r = .next t ↔ r = .ok t ∨ ∃ f, r = .raise f ∧ t = s.raise f := by
  cases r <;> simp [settle, eq_comm]

@[simp] theorem Res.andThen_ok (k : State → Res) : (Res.ok s).andThen k = k s := rfl

@[simp] theorem Res.andThen_raise (f : FaultCode) (k : State → Res) : (Res.raise f).andThen k = .raise f := rfl

@[simp] theorem Res.andThen_stop (r : Fault) (k : State → Res) : (Res.stop r).andThen k = .stop r := rfl

/-- What stands after a step of the pseudocode runs only if it came to its end. -/
theorem Res.andThen_eq_ok (r : Res) (k : State → Res) :
    r.andThen k = .ok t ↔ ∃ u, r = .ok u ∧ k u = .ok t := by
  cases r <;> simp [Res.andThen]

theorem whenLive_of_live (o : Host.Outcome State Fault Refusal) (h : s.fault = none) : whenLive s o = o := by
  simp [whenLive, h]

theorem whenLive_of_fault (o : Host.Outcome State Fault Refusal) (f : FaultCode) (h : s.fault = some f) :
    whenLive s o = .fault (.halted f) := by
  simp [whenLive, h]

/-- A phase of the task in a block without a fault. -/
theorem taskPhase_of_live (r : Res) (h : s.fault = none) : taskPhase s r = settle s r := whenLive_of_live s _ h

/-- A byte event while callbacks are enabled. -/
theorem deliver_of_ready (e : ByteEvent) (r : Res) (h : s.Ready) : deliver e s r = settle s r := by
  simp [deliver, whenLive, h.1, h.2]

/-- A byte event while callbacks are masked: the transport holds it (R167). -/
theorem deliver_of_masked (e : ByteEvent) (r : Res) (h : s.fault = none) (hi : s.ie = false) :
    deliver e s r = .next { s with held := s.held ++ [e] } := by
  simp [deliver, whenLive, h, hi]

/-- Everything a phase of the task can come to. -/
theorem taskPhase_eq_next (r : Res) :
    taskPhase s r = .next t ↔ s.fault = none ∧ (r = .ok t ∨ ∃ f, r = .raise f ∧ t = s.raise f) := by
  unfold taskPhase whenLive
  split <;> simp_all [settle_eq_next]

/-- Everything a byte event can come to. -/
theorem deliver_eq_next (e : ByteEvent) (r : Res) :
    deliver e s r = .next t ↔ s.fault = none ∧
      ((s.ie = true ∧ (r = .ok t ∨ ∃ f, r = .raise f ∧ t = s.raise f)) ∨
        (s.ie = false ∧ t = { s with held := s.held ++ [e] })) := by
  unfold deliver whenLive
  split
  · simp_all
  · rename_i h
    cases hi : s.ie <;> simp [h, settle_eq_next, @eq_comm _ t]

/-- The critical section restores `ie` whatever its body does (R42, R43). -/
theorem State.critical_eq_ok (body : State → Res) :
    s.critical body = .ok t ↔ ∃ u, body { s with ie := false } = .ok u ∧ t = { u with ie := s.ie } := by
  simp [State.critical, Res.andThen_eq_ok, @eq_comm _ t]

/-- What a drawn buffer changes: memory and the count of draws (R126). -/
theorem State.drawInto_ok (n : Nat) (a : Nat) (s t : State) (h : State.drawInto n a s = .ok t) :
    t = { s with mem := t.mem, draws := s.draws + n } ∧
      ∀ b, (b < a ∨ a + n ≤ b) → Memory.read t.mem b = Memory.read s.mem b := by
  induction n generalizing a s with
  | zero => cases h; exact ⟨rfl, fun _ _ => rfl⟩
  | succ n ih =>
    simp only [State.drawInto] at h
    split at h
    · cases h
    · rename_i u hu
      obtain ⟨-, rfl⟩ := (State.memWrite_eq_some _ _ _ _).mp hu
      obtain ⟨h1, h2⟩ := ih _ _ h
      refine ⟨by rw [h1]; simp; omega, fun b hb => ?_⟩
      rw [h2 b (by omega)]
      exact Memory.read_write_other _ _ _ _ (by omega)

end Sys2Proof.Machine
end

