-- ==== Sys2Proof/Laws/PerInstr.lean ====
section
/-! SUPPORT. Per-instruction laws: the first byte of every well-formed row's encoding is a byte of its row of
spec/opcode_table.json (its match under its mask). -/

namespace Sys2Proof.Laws.TableRow

/-- The row's mask and match, from spec/opcode_table.json. -/
def row : Instr → Byte × Byte
  | .push _ => (0x07, 0x00)
  | .pull => (0x07, 0x01)
  | .submitAt _ => (0x07, 0x02)
  | .submitTx _ => (0x07, 0x03)
  | .receive _ => (0x07, 0x04)
  | .assocRead => (0x07, 0x05)
  | .reserved110 => (0x07, 0x06)
  | .reserved111 => (0x07, 0x07)
  | .rxFlow11 => (0xFF, 0x11)
  | .rxFlow13 => (0xFF, 0x13)
  | .rxDelim7e => (0xFF, 0x7E)
  | .rxEsc7d => (0xFF, 0x7D)
  | .rxData _ => (0x00, 0x00)
  | .rxAtResponse => (0xFF, 0x88)
  | .rxModemStatus => (0xFF, 0x8A)
  | .rxTransmitStatus => (0xFF, 0x8B)
  | .rxReceivePacket => (0xFF, 0x90)
  | .rxOtherType _ => (0x00, 0x00)
  | .txAtCommand _ => (0xFF, 0x08)
  | .txTransmitRequest _ => (0xFF, 0x10)
  | .msJoined => (0xFF, 0x02)
  | .msLeft => (0xFF, 0x03)
  | .msOther _ => (0x00, 0x00)
  | .esc7e => (0xFF, 0x7E)
  | .esc7d => (0xFF, 0x7D)
  | .esc11 => (0xFF, 0x11)
  | .esc13 => (0xFF, 0x13)

/-- The instruction's encoding starts with a byte that its row of the table matches. -/
def Statement (i : Instr) : Prop :=
  ∃ b rest, encode i = b :: rest ∧ b &&& (row i).1 = (row i).2

theorem push (b : Byte) : Statement (.push b) := ⟨_, _, rfl, by simp [row]⟩
theorem pull : Statement .pull := ⟨_, _, rfl, rfl⟩
theorem submitAt (d : Ref) : Statement (.submitAt d) := ⟨_, _, rfl, by simp [row]⟩
theorem submitTx (d : Ref) : Statement (.submitTx d) := ⟨_, _, rfl, by simp [row]⟩
theorem receive (r : Ref) : Statement (.receive r) := ⟨_, _, rfl, by simp [row]⟩
theorem assocRead : Statement .assocRead := ⟨_, _, rfl, rfl⟩
theorem reserved110 : Statement .reserved110 := ⟨_, _, rfl, rfl⟩
theorem reserved111 : Statement .reserved111 := ⟨_, _, rfl, rfl⟩
theorem rxFlow11 : Statement .rxFlow11 := ⟨_, _, rfl, rfl⟩
theorem rxFlow13 : Statement .rxFlow13 := ⟨_, _, rfl, rfl⟩
theorem rxDelim7e : Statement .rxDelim7e := ⟨_, _, rfl, rfl⟩
theorem rxEsc7d : Statement .rxEsc7d := ⟨_, _, rfl, rfl⟩
theorem rxData (b : Byte) : Statement (.rxData b) := ⟨_, _, rfl, BitVec.and_zero⟩
theorem rxAtResponse : Statement .rxAtResponse := ⟨_, _, rfl, rfl⟩
theorem rxModemStatus : Statement .rxModemStatus := ⟨_, _, rfl, rfl⟩
theorem rxTransmitStatus : Statement .rxTransmitStatus := ⟨_, _, rfl, rfl⟩
theorem rxReceivePacket : Statement .rxReceivePacket := ⟨_, _, rfl, rfl⟩
theorem rxOtherType (v : Byte) : Statement (.rxOtherType v) := ⟨_, _, rfl, BitVec.and_zero⟩
theorem txAtCommand (d : Ref) : Statement (.txAtCommand d) := ⟨_, _, rfl, by simp [row]⟩
theorem txTransmitRequest (d : Ref) : Statement (.txTransmitRequest d) := ⟨_, _, rfl, by simp [row]⟩
theorem msJoined : Statement .msJoined := ⟨_, _, rfl, rfl⟩
theorem msLeft : Statement .msLeft := ⟨_, _, rfl, rfl⟩
theorem msOther (st : Byte) : Statement (.msOther st) := ⟨_, _, rfl, BitVec.and_zero⟩
theorem esc7e : Statement .esc7e := ⟨_, _, rfl, rfl⟩
theorem esc7d : Statement .esc7d := ⟨_, _, rfl, rfl⟩
theorem esc11 : Statement .esc11 := ⟨_, _, rfl, rfl⟩
theorem esc13 : Statement .esc13 := ⟨_, _, rfl, rfl⟩

end Sys2Proof.Laws.TableRow
end

