-- ==== Sys2Proof/Laws/Steps.lean ====
section
/-! SUPPORT. What each kind of step comes to, as an equation or an inversion, so that no proof unfolds `step`,
PUSH, PULL or a phase of the task. -/

namespace Sys2Proof.Machine

variable (s t : State)

/-- PULL while callbacks are delivered. -/
theorem execPull_of_ready (h : s.Ready) : exec .pull s = settle s s.pullBody := deliver_of_ready s _ _ h

/-- PUSH while callbacks are delivered. -/
theorem execPush_of_ready (b : Byte) (h : s.Ready) : exec (.push b) s = settle s (s.pushBody b) :=
  deliver_of_ready s _ _ h

/-- PUSH of a data byte is its value with the escape flag used up (R107). -/
theorem execPush_of_receives (b v : Byte) (h : s.Receives b v) :
    exec (.push b) s = settle s (s.escapeDone.rxValue v) := by
  obtain ⟨hr, ⟨h1, h2, h3, h4⟩, rfl⟩ := h
  rw [execPush_of_ready s b hr, State.pushBody, if_neg (by simp [isFlow]; exact ⟨h1, h2⟩), if_neg h3, if_neg h4]
  rfl

/-- RX_DATA likewise. -/
theorem execRxData_of_receives (b v : Byte) (h : s.Receives b v) :
    exec (.rxData b) s = settle s (s.escapeDone.rxValue v) := by
  obtain ⟨hr, -, rfl⟩ := h
  exact deliver_of_ready s _ _ hr

/-- The row of a received type value runs that value. -/
theorem exec_decodeType (v : Byte) (h : s.fault = none) : exec (decodeType v) s = settle s (s.rxValue v) := by
  unfold decodeType
  repeat' split
  all_goals (subst_vars; exact taskPhase_of_live s _ h)

/-- A value at the type byte. -/
theorem rxValue_of_frameType (v : Byte) (h : s.rx.state = .frameType) : s.rxValue v = s.typeByte v := by
  unfold State.rxValue; rw [h]

/-- A value in a body state. -/
theorem rxValue_of_body (v : Byte) (h : s.rx.state.IsBody) : s.rxValue v = s.bodyValue v := by
  unfold State.rxValue
  cases hs : s.rx.state <;> simp only [hs, RxState.IsBody] at h <;> rfl

/-- A body byte other than the checksum. -/
theorem bodyValue_of_lt (v : Byte) (h : s.rx.count.toNat < s.rx.len.toNat) : s.bodyValue v = s.bodyByte v :=
  if_pos h

/-- A valid checksum byte completes the frame (R121). -/
theorem bodyValue_of_valid (v : Byte) (h : s.rx.count = s.rx.len) (hs : s.rx.sum + v = 0xFF) :
    s.bodyValue v = s.complete.andThen fun t => .ok (t.setRxState .frameMark) := by
  unfold State.bodyValue State.checksumByte checksumValid
  rw [if_neg (by simp [h]), if_pos (by simpa using hs)]

/-- A checksum byte that does not match discards the frame (R121, R122). -/
theorem bodyValue_of_invalid (v : Byte) (h : s.rx.count = s.rx.len) (hs : s.rx.sum + v ≠ 0xFF) :
    s.bodyValue v = .ok (s.discard .checksum) := by
  unfold State.bodyValue State.checksumByte checksumValid
  rw [if_neg (by simp [h]), if_neg (by simpa using hs)]

theorem minLen_toNat (a b : U16) : (minLen a b).toNat = min a.toNat b.toNat := by
  unfold minLen; split <;> omega

/-- The store limit never passes what is to be stored. -/
theorem minLen_le (a b : U16) : (minLen a b).toNat ≤ a.toNat ∧ (minLen a b).toNat ≤ b.toNat := by
  rw [minLen_toNat]; omega

/-- A sequence id is never 0 and never the one before it (R134). -/
theorem nextId_ne (x : Byte) : nextId x ≠ 0 ∧ nextId x ≠ x := by
  revert x; decide

/-- Everything the tests of a SUBMIT let through (R161, R170). -/
theorem submitChecks_eq_ok (c : TaskCommand) (len : Nat) (k : Res) :
    s.submitChecks c len k = .ok t ↔ s.task.op = .noOp ∧ s.tx.state = .idle ∧ len ≤ 0xFFFF ∧ k = .ok t := by
  unfold State.submitChecks
  split
  · simp_all; tauto
  · split
    · simp; omega
    · rename_i h1 h2
      rw [not_or, not_not, not_not] at h1
      exact ⟨fun h => ⟨h1.1, h1.2, by omega, h⟩, fun h => h.2.2.2⟩

/-- A resumption of the task. -/
theorem step_of_resume (rest : List Input) (h : s.Takes .resume rest) :
    step s = settle { s with inputs := rest } (State.resumeTask { s with inputs := rest }) := by
  obtain ⟨h1, h2, h3⟩ := h
  unfold step State.fetch
  rcases h2 with h2 | h2
  · cases hi : s.ie <;> simp [h1, h2, h3, hi, State.nextInput, State.runInput]
  · simp [h1, h2, h3, State.nextInput, State.runInput]

/-- Everything a step that comes to a next state can be: a held byte event, no move, or a move of the
environment taken from its list: an operation, a resumption, or a write of the caller. -/
theorem step_eq_next (h : step s = .next t) :
    s.fault = none ∧
      ((∃ e rest, s.ie = true ∧ s.held = e :: rest ∧ exec e.instr { s with held := rest } = .next t) ∨
        (s.inputs = [] ∧ t = s) ∨
        ∃ i rest u, s.inputs = i :: rest ∧ u = { s with inputs := rest } ∧
          (match i with
            | .operation bytes =>
              ∃ j, decodeOperation bytes = Except.ok j ∧ exec j u = Host.Outcome.next t
            | .resume => settle u u.resumeTask = Host.Outcome.next t
            | .callerByte a v => t = u.callerWrite a v
            | .callerAt d r => t = u.setAtRecord d r
            | .callerTx d r => t = u.setTxRecord d r
            | .callerRecv d r => t = u.setRecvRecord d r : Prop)) := by
  have hf : s.fault = none := by
    cases hf : s.fault with
    | some f => simp [step, State.fetch, hf] at h
    | none => rfl
  refine ⟨hf, ?_⟩
  by_cases hh : s.ie = true ∧ s.held ≠ []
  · obtain ⟨e, rest, he⟩ := List.exists_cons_of_ne_nil hh.2
    have hs : s.fetch = .instr e.instr { s with held := rest } := by
      unfold State.fetch; simp only [hf, hh.1, he]
    rw [step, hs] at h
    exact .inl ⟨e, rest, hh.1, he, h⟩
  · have hs : s.fetch = s.nextInput := by
      unfold State.fetch
      cases hi : s.ie with
      | false => simp only [hf]
      | true => simp only [hf, not_not.mp fun hn => hh ⟨hi, hn⟩]
    refine .inr ?_
    rw [step, hs, State.nextInput] at h
    cases hi : s.inputs with
    | nil => rw [hi] at h; cases h; exact .inl ⟨rfl, rfl⟩
    | cons i rest =>
      refine .inr ⟨i, rest, { s with inputs := rest }, rfl, rfl, ?_⟩
      simp only [hi] at h
      cases i with
      | operation bytes =>
        simp only [State.runInput] at h
        cases hd : decodeOperation bytes with
        | error e => simp [hd] at h
        | ok j => exact ⟨j, hd, by simpa [hd] using h⟩
      | resume => exact h
      | callerByte a v => cases h; rfl
      | callerAt d r => cases h; rfl
      | callerTx d r => cases h; rfl
      | callerRecv d r => cases h; rfl

end Sys2Proof.Machine
end

