-- ==== Sys2Proof/Tests/Slice0.lean ====
section
/-! SUPPORT. Tests of single steps, with the expected values of spec/95_test_vectors.md or the encodings of
spec/opcode_table.json, and a witness for the hypotheses of every statement. -/

open Sys2Proof Sys2Proof.Machine

namespace Sys2Proof.Tests

/-! Helpers: small states, and a view of an outcome. -/

/-- A view of the next state, none where there is none. -/
def got {α : Type} (f : State → α) : Host.Outcome State Fault Refusal → Option α
  | .next t => some (f t)
  | .fault _ => none
  | .refused _ => none

/-- The header "ID" of V-TX-1. -/
def idHeader : Vector Byte 14 := #v[0x08, 0x01, 0x49, 0x44, 0, 0, 0, 0, 0, 0, 0, 0, 0, 0]

/-- The Transmitter in `st` with the frame "ID" and `plen` payload bytes at 0x0FFF, at index `idx`. -/
def inTx (st : TxState) (plen idx : U16) (sum : Byte) : State :=
  { State.reset with tx := { State.reset.tx with
      state := st, hdr := idHeader, hdrLen := 4, pptr := 0x0FFF, plen := plen, flen := 4 + plen, idx := idx,
      sum := sum } }

/-- The Receiver in `st`, `count` body bytes into a frame of type `type`. -/
def inRx (st : RxState) (type : Byte) (len count : U16) (sum : Byte) : State :=
  { State.reset with rx := { State.reset.rx with state := st, type := type, len := len, count := count, sum := sum } }

/-- The example AT request record of 95_test_vectors.md, with an output and an input length. -/
def atRec (outLen inCap : U16) : AtRecord :=
  { cmd0 := 0x49, cmd1 := 0x44, outPtr := 0x0100, outLen := outLen, inPtr := 0x0180, inCap := inCap, result := 0xAA }

/-- The example transmit record. -/
def txRec (dataLen : U16) : TxRecord :=
  { addr64 := 0x0013A20040A1B2C3, addr16 := 0xFFFE, dataPtr := 0x0200, dataLen := dataLen, result := 0xAA }

/-- The example receive descriptor. -/
def recvRec (bufPtr : Nat) (cap : U16) : RecvRecord :=
  { bufPtr := bufPtr, cap := cap, addr64 := 0, addr16 := 0, length := 0 }

/-- With the request record 1 outstanding. -/
def withAt (s : State) (rec : AtRecord) : State :=
  { s.setAtRecord 1 rec with corr := { s.corr with req := some (.atCommand 1), expect := .atResponse, seqId := 1 } }

/-- With the request record 2 outstanding. -/
def withTx (s : State) (rec : TxRecord) : State :=
  { s.setTxRecord 2 rec with corr := { s.corr with req := some (.transmitData 2), expect := .transmitStatus, seqId := 1 } }

/-- With the session 3 pending. -/
def withSession (s : State) (rec : RecvRecord) : State :=
  { s.setRecvRecord 3 rec with
    corr := { s.corr with assoc := .associated, sess := some 3, sessPending := true }
    task := { s.task with op := .recvWait, wait := .awaitingSessionClear } }

/-- With a header stored. -/
def withHdr (s : State) (hdr : Vector Byte 11) : State := { s with rx := { s.rx with hdr := hdr } }

/-- Associated. -/
def joinedNow (s : State) : State := { s with corr := { s.corr with assoc := .associated } }

/-- With a command in progress. -/
def withOp (s : State) (op : TaskOp) : State := { s with task := { s.task with op := op } }

/-- With the environment's next move. -/
def withMove (s : State) (i : Input) : State := { s with inputs := [i] }

/-- The header of the example 0x90 frames. -/
def rxHeader : Vector Byte 11 := #v[0x00, 0x13, 0xA2, 0x00, 0x40, 0xA1, 0xB2, 0xC3, 0x12, 0x34, 0x01]

/-- A header that starts with one byte. -/
def hdr1 (b : Byte) : Vector Byte 11 := #v[b, 0, 0, 0, 0, 0, 0, 0, 0, 0, 0]

/-- The header of ATR1, with its id and status. -/
def atrHdr (id status : Byte) : Vector Byte 11 := #v[id, 0x49, 0x44, status, 0, 0, 0, 0, 0, 0, 0]

/-! Well-formedness: one ill-formed term for each check, and its row's nearest well-formed term. -/

theorem test_wf_refuses_data_11 : (Instr.rxData 0x11).wf = false := by decide
theorem test_wf_refuses_data_13 : (Instr.rxData 0x13).wf = false := by decide
theorem test_wf_refuses_data_7e : (Instr.rxData 0x7E).wf = false := by decide
theorem test_wf_refuses_data_7d : (Instr.rxData 0x7D).wf = false := by decide
theorem test_wf_refuses_type_88 : (Instr.rxOtherType 0x88).wf = false := by decide
theorem test_wf_refuses_type_8a : (Instr.rxOtherType 0x8A).wf = false := by decide
theorem test_wf_refuses_type_8b : (Instr.rxOtherType 0x8B).wf = false := by decide
theorem test_wf_refuses_type_90 : (Instr.rxOtherType 0x90).wf = false := by decide
theorem test_wf_refuses_status_02 : (Instr.msOther 0x02).wf = false := by decide
theorem test_wf_refuses_status_03 : (Instr.msOther 0x03).wf = false := by decide
theorem test_wf_accepts_the_neighbours :
    (Instr.rxData 0x12).wf = true ∧ (Instr.rxOtherType 0x89).wf = true ∧ (Instr.msOther 0x04).wf = true := by decide

/-! Decoding: words written out from spec/opcode_table.json, every row. -/

theorem test_decode_op3 :
    decode .op3 [0b00000000, 0b01000001] = .ok (.push 0x41, []) ∧
    decode .op3 [0b00000001] = .ok (.pull, []) ∧
    decode .op3 [0b00000010, 0b00000001, 0b00000010] = .ok (.submitAt 0x0102, []) ∧
    decode .op3 [0b00000011, 0b00000001, 0b00000010] = .ok (.submitTx 0x0102, []) ∧
    decode .op3 [0b00000100, 0b10000001, 0b00000010] = .ok (.receive 0x8102, []) ∧
    decode .op3 [0b00000101] = .ok (.assocRead, []) ∧
    decode .op3 [0b00000110] = .ok (.reserved110, []) ∧
    decode .op3 [0b00000111] = .ok (.reserved111, []) := ⟨rfl, rfl, rfl, rfl, rfl, rfl, rfl, rfl⟩

theorem test_decode_raw_bytes :
    decode .rxRawByte [0b00010001] = .ok (.rxFlow11, []) ∧
    decode .rxRawByte [0b00010011] = .ok (.rxFlow13, []) ∧
    decode .rxRawByte [0b01111110] = .ok (.rxDelim7e, []) ∧
    decode .rxRawByte [0b01111101] = .ok (.rxEsc7d, []) ∧
    decode .rxRawByte [0b01011110] = .ok (.rxData 0x5E, []) := ⟨rfl, rfl, rfl, rfl, rfl⟩

theorem test_decode_received_types :
    decode .rxFrameType [0b10001000] = .ok (.rxAtResponse, []) ∧
    decode .rxFrameType [0b10001010] = .ok (.rxModemStatus, []) ∧
    decode .rxFrameType [0b10001011] = .ok (.rxTransmitStatus, []) ∧
    decode .rxFrameType [0b10010000] = .ok (.rxReceivePacket, []) ∧
    decode .rxFrameType [0b00001000] = .ok (.rxOtherType 0x08, []) := ⟨rfl, rfl, rfl, rfl, rfl⟩

theorem test_decode_sent_types :
    decode .txFrameType [0b00001000, 0b00000000, 0b00000111] = .ok (.txAtCommand 7, []) ∧
    decode .txFrameType [0b00010000, 0b00000000, 0b00000111] = .ok (.txTransmitRequest 7, []) ∧
    decode .txFrameType [0b10001000] = .error (.notTxType 0x88) := ⟨rfl, rfl, rfl⟩

theorem test_decode_statuses_and_pairs :
    decode .modemStatus [0b00000010] = .ok (.msJoined, []) ∧
    decode .modemStatus [0b00000011] = .ok (.msLeft, []) ∧
    decode .modemStatus [0b00000000] = .ok (.msOther 0x00, []) ∧
    decode .escapePair [0b01111110] = .ok (.esc7e, []) ∧
    decode .escapePair [0b01111101] = .ok (.esc7d, []) ∧
    decode .escapePair [0b00010001] = .ok (.esc11, []) ∧
    decode .escapePair [0b00010011] = .ok (.esc13, []) ∧
    decode .escapePair [0b00010010] = .error (.notSpecial 0x12) := ⟨rfl, rfl, rfl, rfl, rfl, rfl, rfl, rfl⟩

/-- What is no operation is refused by name. -/
theorem test_decode_refuses_by_name :
    decodeOperation [] = .error .empty ∧ decodeOperation [0b00001000] = .error (.badOpByte 0x08) ∧
    decodeOperation [0b00000000] = .error .missingOperand ∧
    decodeOperation [0b00000010, 0] = .error .missingOperand ∧
    decodeOperation [0b00000001, 0] = .error .trailingBytes := ⟨rfl, rfl, rfl, rfl, rfl⟩

theorem test_table_words :
    decodeTableWord 8 0b010 = some (.submitAt 0) ∧ decodeTableWord 8 0x7E = some .rxDelim7e ∧
    decodeTableWord 8 0x8B = some .rxTransmitStatus ∧ decodeTableWord 16 0x10 = some (.txTransmitRequest 0) := by
  decide

theorem test_table_word_is_run :
    got (·.rx.state) (step (State.reset.withFetchWord 8 0x7E)) = some .length1 := by decide

/-! The transport's operations. -/

/-- V-RX-1: the checksum byte of MS02 completes it. -/
theorem test_push_completes_modem_status :
    got (·.corr.assoc) (exec (.push 0x73) (withHdr (inRx .modemStatus 0x8A 1 1 0x8C) (hdr1 0x02))) =
      some .associated := by decide

/-- V-RX-11: `7D 22` is the status 0x02. -/
theorem test_push_unescapes :
    got (fun t => (t.rx.hdr[0], t.rx.sum))
      (exec (.push 0x22) { inRx .modemStatus 0x8A 1 0 0x8A with
        rx := { (inRx .modemStatus 0x8A 1 0 0x8A).rx with esc := true } }) = some (0x02, 0x8C) := by decide

/-- V-TX-1: the checksum of sum 0x96 is 0x69. -/
theorem test_pull_checksum :
    got (fun t => (t.out.pulled, t.tx.state)) (exec .pull (inTx .checksum 0 0 0x96)) = some ([some 0x69], .idle) := by
  decide

/-- V-TX-3: the checksum 0x7E is sent as 7D, then 5E. -/
theorem test_pull_checksum_escaped :
    got (fun t => (t.out.pulled, t.tx.escPending, t.tx.escByte)) (exec .pull (inTx .checksum 0 0 0x81)) =
      some ([some 0x7D], true, 0x5E) := by decide

/-- P1 line 1. -/
theorem test_submit_at :
    got (fun t => (t.corr.seqId, t.tx.hdr.toList.take 4, t.tx.flen, t.corr.expect))
      (exec (.submitAt 1) (State.reset.setAtRecord 1 (atRec 0 0))) =
      some (0x01, [0x08, 0x01, 0x49, 0x44], 4, .atResponse) := by decide

/-- P2 line 6: the id wraps from FF to 01. -/
theorem test_submit_at_wraps :
    got (·.corr.seqId) (exec (.submitAt 1) { State.reset with corr := { State.reset.corr with seqId := 0xFF } }) =
      some 0x01 := by decide

/-- P2 line 1, and the header of V-TX-11. -/
theorem test_submit_tx :
    got (fun t => (t.tx.flen, t.tx.hdr.toList))
      (exec (.submitTx 2) ((State.setTxRecord { State.reset with
        corr := { State.reset.corr with seqId := 0xFE } } 2 (txRec 4)))) =
      some (0x0012, [0x10, 0xFF, 0x00, 0x13, 0xA2, 0x00, 0x40, 0xA1, 0xB2, 0xC3, 0xFF, 0xFE, 0x00, 0x00]) := by decide

/-- P3 line 3: j = 3, k = 2, c = 2, rx_limit 2. -/
theorem test_receive_repoints :
    got (fun t => (t.rx.state, t.rx.limit, t.task.copyK, t.task.copyC, t.task.op))
      (exec (.receive 3) ((joinedNow { inRx .data 0x90 16 14 0 with
        rx := { (inRx .data 0x90 16 14 0).rx with full := 5, limit := 5 } }).setRecvRecord 3 (recvRec 0x0300 2))) =
      some (.dataRequested, 2, 2, 2, .recvCopy) := by decide

/-- P4 line 6: not associated, false at once. -/
theorem test_receive_not_associated :
    got (fun t => (t.out.task, t.task.op)) (exec (.receive 3) State.reset) =
      some ([.receiveReturned false], .noOp) := by decide

/-- P4 line 7, and the same while associated. -/
theorem test_assoc_read :
    got (·.out.task) (exec .assocRead State.reset) = some [.assocReturned false] ∧
    got (·.out.task) (exec .assocRead (joinedNow State.reset)) = some [.assocReturned true] := by decide

/-- R89. -/
theorem test_reserved_110 : got (·.fault) (exec .reserved110 State.reset) = some (some (.badOp 0b110)) := by decide

/-- R89. -/
theorem test_reserved_111 : got (·.fault) (exec .reserved111 State.reset) = some (some (.badOp 0b111)) := by decide

/-! The raw byte rows. -/

/-- The state of V-RX-11 between 7D and 22. -/
def escaped : State := { State.reset with rx := { State.reset.rx with state := .modemStatus, esc := true } }

/-- V-RX-11: 11 after 7D is dropped. -/
theorem test_rx_flow_11 : got (·.rx.esc) (exec .rxFlow11 escaped) = some true := by decide

/-- V-RX-11: 13 is dropped. -/
theorem test_rx_flow_13 : got (·.rx.esc) (exec .rxFlow13 escaped) = some true := by decide

/-- V-RX-12: 7E after 7D resynchronises and clears the escape. -/
theorem test_rx_delim_7e :
    got (fun t => (t.rx.state, t.rx.esc)) (exec .rxDelim7e escaped) = some (.length1, false) := by decide

/-- V-RX-12: 7D sets the escape flag. -/
theorem test_rx_esc_7d : got (·.rx.esc) (exec .rxEsc7d (inRx .modemStatus 0x8A 1 0 0x8A)) = some true := by decide

/-- V-RX-15: `7D 5E` is the value 0x7E. -/
theorem test_rx_data :
    got (fun t => (t.rx.hdr[0], t.rx.esc))
      (exec (.rxData 0x5E) { escaped with rx := { escaped.rx with type := 0x8A, len := 1 } }) =
      some (0x7E, false) := by decide

/-! The received type rows. -/

/-- V-RX-6: discarded while nothing is expected; and P1 line 3: accepted. -/
theorem test_rx_at_response :
    got (·.rx.state) (exec .rxAtResponse (inRx .frameType 0 4 0 0)) = some .frameMark ∧
    got (·.rx.state) (exec .rxAtResponse (withAt (inRx .frameType 0 4 0 0) (atRec 0 0))) = some .atResponse := by
  decide

/-- V-RX-9: a body without the status byte is short. -/
theorem test_rx_modem_status :
    got (fun t => (t.rx.state, t.out.discards)) (exec .rxModemStatus (inRx .frameType 0 0 0 0)) =
      some (.frameMark, [.short]) := by decide

/-- V-RX-7: discarded; and P2 line 3: accepted. -/
theorem test_rx_transmit_status :
    got (·.rx.state) (exec .rxTransmitStatus (inRx .frameType 0 6 0 0)) = some .frameMark ∧
    got (·.rx.state) (exec .rxTransmitStatus (withTx (inRx .frameType 0 6 0 0) (txRec 4))) =
      some .transmitStatus := by decide

/-- P3 line 2: rx_full 5, rx_limit 5, Data. -/
theorem test_rx_receive_packet :
    got (fun t => (t.rx.state, t.rx.full, t.rx.limit)) (exec .rxReceivePacket (inRx .frameType 0 16 0 0)) =
      some (.data, 5, 5) := by decide

/-- V-RX-10: rx_len 10 is short. -/
theorem test_rx_receive_packet_short :
    got (fun t => (t.rx.state, t.out.discards)) (exec .rxReceivePacket (inRx .frameType 0 10 0 0)) =
      some (.frameMark, [.short]) := by decide

/-- V-RX-5 and V-RX-8. -/
theorem test_rx_other_type :
    got (fun t => (t.rx.state, t.out.discards)) (exec (.rxOtherType 0x95) (inRx .frameType 0 1 0 0)) =
      some (.frameMark, [.type]) ∧
    got (·.rx.state) (exec (.rxOtherType 0x08) (inRx .frameType 0 3 0 0)) = some .frameMark := by decide

/-! The sent type, status and escape rows. -/

/-- V-TX-1. -/
theorem test_tx_at_command :
    got (fun t => (t.tx.hdr.toList.take 4, t.tx.hdrLen, t.tx.flen))
      (exec (.txAtCommand 1) (withAt State.reset (atRec 0 0))) = some ([0x08, 0x01, 0x49, 0x44], 4, 4) := by decide

/-- V-TX-9. -/
theorem test_tx_transmit_request :
    got (fun t => (t.tx.hdr.toList, t.tx.flen)) (exec (.txTransmitRequest 2) (withTx State.reset (txRec 2))) =
      some ([0x10, 0x01, 0x00, 0x13, 0xA2, 0x00, 0x40, 0xA1, 0xB2, 0xC3, 0xFF, 0xFE, 0x00, 0x00], 0x0010) := by decide

/-- V-RX-1. -/
theorem test_ms_joined : got (·.corr.assoc) (exec .msJoined State.reset) = some .associated := by decide

/-- P4 line 4: the pending session is aborted, its success flag stays. -/
theorem test_ms_left :
    got (fun t => (t.corr.assoc, t.corr.sessPending, t.corr.sessSuccess))
      (exec .msLeft (withSession State.reset (recvRec 0x0300 8))) = some (.notAssociated, false, false) := by decide

/-- V-RX-3. -/
theorem test_ms_other : got (·.corr.assoc) (exec (.msOther 0x00) (joinedNow State.reset)) = some .associated := by
  decide

/-- V-TX-8: 7E 7D 11 13 are sent as 7D and then 5E 5D 31 33. -/
theorem test_esc_rows :
    got (fun t => (t.out.pulled, t.tx.escByte)) (exec .esc7e State.reset) = some ([some 0x7D], 0x5E) ∧
    got (fun t => (t.out.pulled, t.tx.escByte)) (exec .esc7d State.reset) = some ([some 0x7D], 0x5D) ∧
    got (fun t => (t.out.pulled, t.tx.escByte)) (exec .esc11 State.reset) = some ([some 0x7D], 0x31) ∧
    got (fun t => (t.out.pulled, t.tx.escByte)) (exec .esc13 State.reset) = some ([some 0x7D], 0x33) := by decide

/-- R78, R80, R81, R83: the operands of the headers of ATR1, TXSQ and RXH. -/
theorem test_received_operands :
    atResponseCmd0 (atrHdr 0x01 0x00) = 0x49 ∧ atResponseCmd1 (atrHdr 0x01 0x00) = 0x44 ∧
    transmitStatusAddr16 #v[0x01, 0x12, 0x34, 0x00, 0x00, 0x00, 0, 0, 0, 0, 0] = 0x1234 ∧
    rxAddr16 rxHeader = 0x1234 ∧ rxAddr64 rxHeader = 0x0013A20040A1B2C3 ∧ rxOptions rxHeader = 0x01 := by decide

/-- R80: every field of the header of TXS7. -/
theorem test_transmit_status_operands :
    let h : Vector Byte 11 := #v[0x07, 0xFF, 0xFE, 0x00, 0x21, 0x00, 0, 0, 0, 0, 0]
    transmitStatusId h = 0x07 ∧ transmitStatusAddr16 h = 0xFFFE ∧ transmitRetries h = 0x00 ∧
      transmitDelivery h = 0x21 ∧ transmitDiscovery h = 0x00 := by decide

/-! Phases of the task and moves of the caller, through `step`. -/

/-- P1 line 5: phase W of SUBMIT returns the result. -/
theorem test_submit_phase_w :
    got (fun t => (t.out.task, t.task.op, t.corr.req))
      (step (withMove (withOp { withAt State.reset { atRec 0 0 with result := 0x00 } with
        corr := { State.reset.corr with req := some (.atCommand 1), seqId := 1 } } .submitWait) .resume)) =
      some ([.submitReturned 0x00], .noOp, none) := by decide

/-- The task of P3 line 4, its second copy. -/
def copying : State :=
  { withSession { State.reset with rx := { State.reset.rx with scratch := [(0, 0x48), (1, 0x65), (2, 0x6C)] } }
      (recvRec 0x0300 2) with
    task := { wait := .none, op := .recvCopy, copyK := 2, copyC := 2, copyI := 1 } }

/-- P3 line 4: 65 is copied to 0x0301 and the copy ends. -/
theorem test_receive_phase_b :
    got (fun t => (t.mem, t.task.op)) (step (withMove copying .resume)) = some ([(0x0301, 0x65)], .recvWait) := by
  decide

/-- P3 line 6: phase W of RECEIVE returns true. -/
theorem test_receive_phase_w :
    got (fun t => (t.out.task, t.task.op))
      (step (withMove (withOp { State.reset with
        corr := { State.reset.corr with sess := some 3, sessSuccess := true } } .recvWait) .resume)) =
      some ([.receiveReturned true], .noOp) := by decide

/-- V-TX-12: a byte the caller writes during the call is the byte memory holds. -/
theorem test_caller_write_during_call :
    got (fun t => Memory.read t.mem 0x0100)
      (step (withMove (withOp State.reset .submitWait) (.callerByte 0x0100 0x43))) = some 0x43 := by decide

/-! Witnesses: for each clause of each statement that has hypotheses, a state and operands that meet them all,
at a boundary where the clause has one. -/

theorem witness_DecodeOfEncode : (Instr.rxData 0x12).wf = true := rfl

theorem witness_EncodeOfDecode : decode .op3 [0b000, 0x41, 0xFF] = .ok (.push 0x41, [0xFF]) := rfl

theorem witness_StepRunsTheOperation :
    (withMove State.reset (.operation [0b001])).Takes (.operation [0b001]) [] ∧
      decodeOperation [0b001] = .ok .pull := ⟨⟨rfl, .inl rfl, rfl⟩, rfl⟩

/-- Callbacks masked. -/
def masked : State := { State.reset with ie := false }

theorem witness_MaskedEventsAreHeld :
    (masked.fault = none ∧ masked.ie = false) ∧
    ({ State.reset with held := [.push 0x7E] } : State).Ready ∧
    ({ State.reset with held := [.pull, .pull] } : State).Ready := ⟨⟨rfl, rfl⟩, ⟨rfl, rfl⟩, ⟨rfl, rfl⟩⟩

theorem witness_FaultedBlockIsHalted : (State.reset.raise (.mem 0x1000)).fault = some (.mem 0x1000) := rfl

theorem witness_ReservedOpCodesFault : State.reset.Live := rfl

/-- The longest frame that does not fit, of each kind, and a command outside the contract. -/
theorem witness_CommandsOutsideTheContractFault :
    ((inTx .checksum 0 0 0).Live ∧ (inTx .checksum 0 0 0).tx.state ≠ .idle) ∧
    ((withOp State.reset .recvWait).Live ∧ (withOp State.reset .recvWait).task.op ≠ .noOp) ∧
    (State.Live (State.reset.setAtRecord 1 (atRec 0xFFFC 0)) ∧
      0xFFFF < 4 + ((State.reset.setAtRecord 1 (atRec 0xFFFC 0)).atRecord 1).outLen.toNat) ∧
    (State.Live (State.reset.setTxRecord 2 (txRec 0xFFF2)) ∧
      0xFFFF < 14 + ((State.reset.setTxRecord 2 (txRec 0xFFF2)).txRecord 2).dataLen.toNat) :=
  ⟨⟨rfl, by decide⟩, ⟨rfl, by decide⟩, ⟨rfl, by decide⟩, ⟨rfl, by decide⟩⟩

theorem witness_PullSendsHeldByteFirst :
    ({ State.reset with tx := { State.reset.tx with escPending := true, escByte := 0x5E } } : State).Ready :=
  ⟨rfl, rfl⟩

theorem witness_PullInIdleReturnsNone :
    State.reset.Ready ∧ State.reset.tx.escPending = false ∧ State.reset.tx.state = .idle := ⟨⟨rfl, rfl⟩, rfl, rfl⟩

theorem witness_PullSendsTheDelimiter :
    (inTx .frameMark 0 0 0).Ready ∧ (inTx .frameMark 0 0 0).tx.escPending = false ∧
      (inTx .frameMark 0 0 0).tx.state = .frameMark := ⟨⟨rfl, rfl⟩, rfl, rfl⟩

theorem witness_PullSendsTheLength :
    ((inTx .length1 0 0 0).Ready ∧ (inTx .length1 0 0 0).tx.escPending = false ∧
      (inTx .length1 0 0 0).tx.state = .length1) ∧
    ((inTx .length2 0xFFFB 0 0).Ready ∧ (inTx .length2 0xFFFB 0 0).tx.escPending = false ∧
      (inTx .length2 0xFFFB 0 0).tx.state = .length2) := ⟨⟨⟨rfl, rfl⟩, rfl, rfl⟩, ⟨⟨rfl, rfl⟩, rfl, rfl⟩⟩

/-- The last header byte. -/
theorem witness_PullSendsAHeaderByte :
    (inTx .header 0 3 0).Ready ∧ (inTx .header 0 3 0).tx.escPending = false ∧
      (inTx .header 0 3 0).tx.state = .header ∧
      (inTx .header 0 3 0).tx.hdr[(inTx .header 0 3 0).tx.idx.toNat]? = some 0x44 := ⟨⟨rfl, rfl⟩, rfl, rfl, rfl⟩

/-- The last valid address, and the first that is not. -/
theorem witness_PullSendsAPayloadByte :
    ((inTx .data 2 0 0).Ready ∧ (inTx .data 2 0 0).tx.escPending = false ∧ (inTx .data 2 0 0).tx.state = .data ∧
      addrValid (inTx .data 2 0 0).params ((inTx .data 2 0 0).tx.pptr + (inTx .data 2 0 0).tx.idx.toNat) = true) ∧
    ((inTx .data 2 1 0).Ready ∧ (inTx .data 2 1 0).tx.escPending = false ∧ (inTx .data 2 1 0).tx.state = .data ∧
      addrValid (inTx .data 2 1 0).params ((inTx .data 2 1 0).tx.pptr + (inTx .data 2 1 0).tx.idx.toNat) = false) :=
  ⟨⟨⟨rfl, rfl⟩, rfl, rfl, by decide⟩, ⟨⟨rfl, rfl⟩, rfl, rfl, by decide⟩⟩

theorem witness_PullSendsTheChecksum :
    (inTx .checksum 0 0 0x81).Ready ∧ (inTx .checksum 0 0 0x81).tx.escPending = false ∧
      (inTx .checksum 0 0 0x81).tx.state = .checksum ∧ isSpecial (0xFF - (inTx .checksum 0 0 0x81).tx.sum) = true :=
  ⟨⟨rfl, rfl⟩, rfl, rfl, by decide⟩

theorem witness_SpecialValuesAreSentAsPairs : IsData 0x12 ∧ State.reset.Live :=
  ⟨⟨by decide, by decide, by decide, by decide⟩, rfl⟩

theorem witness_PullFrame : State.reset.Ready ∧ exec .pull State.reset = .next (State.reset.emit none) :=
  ⟨⟨rfl, rfl⟩, rfl⟩

/-- Two blocks whose Receivers differ. -/
theorem witness_PullDependsOnTransmitterAndMemory :
    State.reset.Ready ∧ (inRx .data 0x90 16 14 0).Ready ∧ (inRx .data 0x90 16 14 0).tx = State.reset.tx ∧
      (inRx .data 0x90 16 14 0).mem = State.reset.mem ∧ (inRx .data 0x90 16 14 0).params = State.reset.params ∧
      (inRx .data 0x90 16 14 0).out.pulled = State.reset.out.pulled ∧
      exec .pull State.reset = .next (State.reset.emit none) := ⟨⟨rfl, rfl⟩, ⟨rfl, rfl⟩, rfl, rfl, rfl, rfl, rfl⟩

/-- One payload byte, at the last valid address. -/
theorem witness_TransmitterSendsTheFrame :
    (inTx .frameMark 1 0 0).Ready ∧ (inTx .frameMark 1 0 0).tx.state = .frameMark ∧
      (inTx .frameMark 1 0 0).tx.escPending = false ∧ TxInv (inTx .frameMark 1 0 0).tx ∧
      (∀ i : Nat, i < (inTx .frameMark 1 0 0).tx.plen.toNat →
        addrValid (inTx .frameMark 1 0 0).params ((inTx .frameMark 1 0 0).tx.pptr + i) = true) :=
  ⟨⟨rfl, rfl⟩, rfl, rfl,
    { header := fun _ => .inl ⟨rfl, rfl⟩, length := fun _ => rfl, headerIndex := fun h => (nomatch h),
      dataIndex := fun h => (nomatch h), escape := fun h => (nomatch h) }, by decide⟩

theorem witness_FlowAndEscapeBytes : State.reset.Ready ∧ escaped.Ready := ⟨⟨rfl, rfl⟩, ⟨rfl, rfl⟩⟩

theorem witness_DelimiterResynchronises : State.reset.Ready ∧ (inRx .data 0x90 16 14 0).Ready := ⟨⟨rfl, rfl⟩, ⟨rfl, rfl⟩⟩

/-- A data byte that stands for itself. -/
theorem receives_plain (s : State) (b : Byte) (hr : s.Ready) (he : s.rx.esc = false) (hb : IsData b) :
    s.Receives b b := ⟨hr, hb, by rw [he]; rfl⟩

theorem isData_00 : IsData 0x00 := ⟨by decide, by decide, by decide, by decide⟩
theorem isData_73 : IsData 0x73 := ⟨by decide, by decide, by decide, by decide⟩

theorem witness_DataByteActsAsItsValue :
    (State.reset.Receives 0x73 0x73 ∧ State.reset.fault = none) ∧ (escaped.Ready ∧ escaped.rx.esc = true) :=
  ⟨⟨receives_plain _ _ ⟨rfl, rfl⟩ rfl isData_73, rfl⟩, ⟨rfl, rfl⟩, rfl⟩

theorem witness_FrameSearchIgnoresData :
    (State.reset.Receives 0x73 0x73 ∧ State.reset.rx.state = .frameMark) ∧
    (State.reset.Ready ∧ State.reset.rx.state = .frameMark ∧ (0x7D : Byte) ≠ 0x7E ∧
      exec (.push 0x7D) State.reset = .next State.reset.escapeNext) :=
  ⟨⟨receives_plain _ _ ⟨rfl, rfl⟩ rfl isData_73, rfl⟩, ⟨rfl, rfl⟩, rfl, by decide, rfl⟩

/-- The declared length 0x0173 and, at the boundary, 0. -/
theorem witness_LengthBytesAreAssembled :
    ((inRx .length1 0 0 0 0).Receives 0x00 0x00 ∧ (inRx .length1 0 0 0 0).rx.state = .length1) ∧
    ((inRx .length2 0 0x0100 0 0).Receives 0x73 0x73 ∧ (inRx .length2 0 0x0100 0 0).rx.state = .length2 ∧
      (inRx .length2 0 0x0100 0 0).rx.len = (0x01 : Byte) ++ (0 : Byte) ∧
      (0x0173 : U16) = (0x01 : Byte) ++ (0x73 : Byte) ∧ (0x0173 : U16) ≠ 0) ∧
    ((inRx .length2 0 0 0 0).Receives 0 0 ∧ (inRx .length2 0 0 0 0).rx.state = .length2 ∧
      (inRx .length2 0 0 0 0).rx.len = 0) :=
  ⟨⟨receives_plain _ _ ⟨rfl, rfl⟩ rfl isData_00, rfl⟩,
    ⟨receives_plain _ _ ⟨rfl, rfl⟩ rfl isData_73, rfl, rfl, rfl, by decide⟩,
    ⟨receives_plain _ _ ⟨rfl, rfl⟩ rfl isData_00, rfl, rfl⟩⟩

theorem witness_ModemStatusTypeByte :
    ((inRx .frameType 0 1 0 0).Live ∧ (inRx .frameType 0 1 0 0).rx.state = .frameType ∧
      1 ≤ (inRx .frameType 0 1 0 0).rx.len.toNat) ∧
    ((inRx .frameType 0 0 0 0).Live ∧ (inRx .frameType 0 0 0 0).rx.state = .frameType ∧
      (inRx .frameType 0 0 0 0).rx.len.toNat < 1) := ⟨⟨rfl, rfl, by decide⟩, ⟨rfl, rfl, by decide⟩⟩

theorem witness_TransmitStatusTypeByte :
    (State.Live (withTx (inRx .frameType 0 6 0 0) (txRec 0)) ∧
      (withTx (inRx .frameType 0 6 0 0) (txRec 0)).rx.state = .frameType ∧
      (withTx (inRx .frameType 0 6 0 0) (txRec 0)).corr.expect = .transmitStatus ∧
      6 ≤ (withTx (inRx .frameType 0 6 0 0) (txRec 0)).rx.len.toNat) ∧
    (State.Live (withTx (inRx .frameType 0 5 0 0) (txRec 0)) ∧
      (withTx (inRx .frameType 0 5 0 0) (txRec 0)).rx.state = .frameType ∧
      (withTx (inRx .frameType 0 5 0 0) (txRec 0)).rx.len.toNat < 6) :=
  ⟨⟨rfl, rfl, rfl, by decide⟩, ⟨rfl, rfl, by decide⟩⟩

theorem witness_AtResponseTypeByte :
    (State.Live (withAt (inRx .frameType 0 4 0 0) (atRec 0 0)) ∧
      (withAt (inRx .frameType 0 4 0 0) (atRec 0 0)).rx.state = .frameType ∧
      (withAt (inRx .frameType 0 4 0 0) (atRec 0 0)).corr.expect = .atResponse ∧
      4 ≤ (withAt (inRx .frameType 0 4 0 0) (atRec 0 0)).rx.len.toNat) ∧
    ((inRx .frameType 0 4 0 0).Live ∧ (inRx .frameType 0 4 0 0).rx.state = .frameType ∧
      (inRx .frameType 0 4 0 0).corr.expect ≠ .atResponse) :=
  ⟨⟨rfl, rfl, rfl, by decide⟩, ⟨rfl, rfl, by decide⟩⟩

theorem witness_ReceivePacketTypeByte :
    (State.Live (withSession (inRx .frameType 0 11 0 0) (recvRec 0x0300 8)) ∧
      (withSession (inRx .frameType 0 11 0 0) (recvRec 0x0300 8)).rx.state = .frameType ∧
      11 ≤ (withSession (inRx .frameType 0 11 0 0) (recvRec 0x0300 8)).rx.len.toNat ∧
      (withSession (inRx .frameType 0 11 0 0) (recvRec 0x0300 8)).corr.sessPending = true ∧
      (withSession (inRx .frameType 0 11 0 0) (recvRec 0x0300 8)).corr.sess = some 3) ∧
    ((inRx .frameType 0 11 0 0).Live ∧ (inRx .frameType 0 11 0 0).rx.state = .frameType ∧
      11 ≤ (inRx .frameType 0 11 0 0).rx.len.toNat ∧ (inRx .frameType 0 11 0 0).corr.sessPending = false) ∧
    ((inRx .frameType 0 10 0 0).Live ∧ (inRx .frameType 0 10 0 0).rx.state = .frameType ∧
      (inRx .frameType 0 10 0 0).rx.len.toNat < 11) :=
  ⟨⟨rfl, rfl, by decide, rfl, rfl⟩, ⟨rfl, rfl, by decide, rfl⟩, ⟨rfl, rfl, by decide⟩⟩

theorem witness_OtherTypesAreDiscarded :
    (inRx .frameType 0 1 0 0).Live ∧ (inRx .frameType 0 1 0 0).rx.state = .frameType ∧
      (Instr.rxOtherType 0x89).wf = true := ⟨rfl, rfl, rfl⟩

/-- The last byte of the longest header. -/
theorem witness_HeaderBytesAreStored :
    (inRx .data 0x90 11 10 0).Receives 0x73 0x73 ∧ (inRx .data 0x90 11 10 0).rx.state.IsBody ∧
      headerSize (inRx .data 0x90 11 10 0).rx.type = some 11 ∧
      (inRx .data 0x90 11 10 0).rx.count.toNat < (inRx .data 0x90 11 10 0).rx.len.toNat ∧
      (inRx .data 0x90 11 10 0).rx.count.toNat < 11 :=
  ⟨receives_plain _ _ ⟨rfl, rfl⟩ rfl isData_73, trivial, rfl, by decide, by decide⟩

/-- A 0x90 frame past its header, with a store limit, its session's buffer at the end of memory. -/
def delivering (count limit : U16) : State :=
  withSession { inRx .dataRequested 0x90 16 count 0 with
    rx := { (inRx .dataRequested 0x90 16 count 0).rx with full := 5, limit := limit } } (recvRec 0x0FFF 8)

/-- The first payload byte of each target, the first past the limit, and a byte past another header. -/
theorem witness_PayloadBytesAreDelivered :
    ((inRx .data 0x90 16 11 0).Receives 0x73 0x73 ∧ (inRx .data 0x90 16 11 0).rx.state = .data ∧
      (inRx .data 0x90 16 11 0).rx.type = 0x90 ∧
      (inRx .data 0x90 16 11 0).rx.count.toNat < (inRx .data 0x90 16 11 0).rx.len.toNat ∧
      11 ≤ (inRx .data 0x90 16 11 0).rx.count.toNat) ∧
    ((delivering 11 1).Receives 0x73 0x73 ∧ (delivering 11 1).rx.state = .dataRequested ∧
      (delivering 11 1).rx.type = 0x90 ∧ (delivering 11 1).rx.count.toNat < (delivering 11 1).rx.len.toNat ∧
      11 ≤ (delivering 11 1).rx.count.toNat ∧
      (delivering 11 1).rx.count.toNat - 11 < (delivering 11 1).rx.limit.toNat ∧
      (delivering 11 1).corr.sess = some 3 ∧
      0x0FFF = ((delivering 11 1).recvRecord 3).bufPtr + ((delivering 11 1).rx.count.toNat - 11) ∧
      addrValid (delivering 11 1).params 0x0FFF = true ∧ Memory.wf (delivering 11 1).mem = true) ∧
    ((delivering 12 1).Receives 0x73 0x73 ∧ (delivering 12 1).rx.state = .dataRequested ∧
      (delivering 12 1).rx.type = 0x90 ∧ (delivering 12 1).rx.count.toNat < (delivering 12 1).rx.len.toNat ∧
      11 ≤ (delivering 12 1).rx.count.toNat ∧
      (delivering 12 1).rx.limit.toNat ≤ (delivering 12 1).rx.count.toNat - 11) ∧
    ((inRx .modemStatus 0x8A 2 1 0).Receives 0x73 0x73 ∧ (inRx .modemStatus 0x8A 2 1 0).rx.state = .modemStatus ∧
      headerSize (inRx .modemStatus 0x8A 2 1 0).rx.type = some 1 ∧
      (inRx .modemStatus 0x8A 2 1 0).rx.count.toNat < (inRx .modemStatus 0x8A 2 1 0).rx.len.toNat ∧
      1 ≤ (inRx .modemStatus 0x8A 2 1 0).rx.count.toNat) :=
  ⟨⟨receives_plain _ _ ⟨rfl, rfl⟩ rfl isData_73, rfl, rfl, by decide, by decide⟩,
    ⟨receives_plain _ _ ⟨rfl, rfl⟩ rfl isData_73, rfl, rfl, by decide, by decide, by decide, rfl, by decide, by decide, rfl⟩,
    ⟨receives_plain _ _ ⟨rfl, rfl⟩ rfl isData_73, rfl, rfl, by decide, by decide, by decide⟩,
    ⟨receives_plain _ _ ⟨rfl, rfl⟩ rfl isData_73, rfl, rfl, by decide, by decide⟩⟩

/-- The first address past memory. -/
theorem witness_PushOutsideMemoryFaults :
    (delivering 12 2).Receives 0x73 0x73 ∧ (delivering 12 2).rx.state = .dataRequested ∧
      (delivering 12 2).rx.type = 0x90 ∧ (delivering 12 2).rx.count.toNat < (delivering 12 2).rx.len.toNat ∧
      11 ≤ (delivering 12 2).rx.count.toNat ∧
      (delivering 12 2).rx.count.toNat - 11 < (delivering 12 2).rx.limit.toNat ∧
      (delivering 12 2).corr.sess = some 3 ∧
      0x1000 = ((delivering 12 2).recvRecord 3).bufPtr + ((delivering 12 2).rx.count.toNat - 11) ∧
      addrValid (delivering 12 2).params 0x1000 = false :=
  ⟨receives_plain _ _ ⟨rfl, rfl⟩ rfl isData_73, rfl, rfl, by decide, by decide, by decide, rfl, by decide, by decide⟩

/-- V-CK-2. -/
theorem witness_ChecksumMismatchDiscards :
    (inRx .modemStatus 0x8A 1 1 0x8D).Receives 0x73 0x73 ∧ (inRx .modemStatus 0x8A 1 1 0x8D).rx.state.IsBody ∧
      (inRx .modemStatus 0x8A 1 1 0x8D).rx.count = (inRx .modemStatus 0x8A 1 1 0x8D).rx.len ∧
      (inRx .modemStatus 0x8A 1 1 0x8D).rx.sum + 0x73 ≠ 0xFF :=
  ⟨receives_plain _ _ ⟨rfl, rfl⟩ rfl isData_73, trivial, rfl, by decide⟩

/-- A modem-status frame about to complete with the checksum byte 0x73. -/
def completing (st : Byte) : State := withHdr (inRx .modemStatus 0x8A 1 1 0x8C) (hdr1 st)

/-- MS02, MS03 and MS00, each with the corr that the premises name. -/
theorem witness_ModemStatusCompletion :
    ((completing 0x02).Receives 0x73 0x73 ∧ (completing 0x02).rx.state = .modemStatus ∧
      (completing 0x02).rx.count = (completing 0x02).rx.len ∧ (completing 0x02).rx.sum + 0x73 = 0xFF) ∧
    ∃ c2 c3 c0 : Corr,
      (((completing 0x02).rx.hdr[0] = 0x02 → c2 = { (completing 0x02).corr with assoc := .associated }) ∧
        ((completing 0x02).rx.hdr[0] = 0x03 →
          c2 = { (completing 0x02).corr with assoc := .notAssociated, sessPending := false }) ∧
        ((completing 0x02).rx.hdr[0] ≠ 0x02 → (completing 0x02).rx.hdr[0] ≠ 0x03 → c2 = (completing 0x02).corr)) ∧
      (((completing 0x03).rx.hdr[0] = 0x02 → c3 = { (completing 0x03).corr with assoc := .associated }) ∧
        ((completing 0x03).rx.hdr[0] = 0x03 →
          c3 = { (completing 0x03).corr with assoc := .notAssociated, sessPending := false }) ∧
        ((completing 0x03).rx.hdr[0] ≠ 0x02 → (completing 0x03).rx.hdr[0] ≠ 0x03 → c3 = (completing 0x03).corr)) ∧
      (((completing 0x00).rx.hdr[0] = 0x02 → c0 = { (completing 0x00).corr with assoc := .associated }) ∧
        ((completing 0x00).rx.hdr[0] = 0x03 →
          c0 = { (completing 0x00).corr with assoc := .notAssociated, sessPending := false }) ∧
        ((completing 0x00).rx.hdr[0] ≠ 0x02 → (completing 0x00).rx.hdr[0] ≠ 0x03 → c0 = (completing 0x00).corr)) :=
  ⟨⟨receives_plain _ _ ⟨rfl, rfl⟩ rfl isData_73, rfl, rfl, by decide⟩,
    { State.reset.corr with assoc := .associated }, { State.reset.corr with assoc := .notAssociated },
    State.reset.corr, by decide, by decide, by decide⟩

/-- A transmit status about to complete. -/
def statusDone : State := withTx (inRx .transmitStatus 0x8B 6 6 0x8C) (txRec 0)

theorem witness_TransmitStatusCompletion :
    statusDone.Receives 0x73 0x73 ∧ statusDone.rx.state = .transmitStatus ∧ statusDone.rx.count = statusDone.rx.len ∧
      statusDone.rx.sum + 0x73 = 0xFF ∧ statusDone.corr.req = some (.transmitData 2) :=
  ⟨receives_plain _ _ ⟨rfl, rfl⟩ rfl isData_73, rfl, rfl, by decide, rfl⟩

/-- An AT response of id `id` about to complete, its in_buffer the last byte of memory and `inCap` long. -/
def responseDone (id : Byte) (inCap : U16) : State :=
  withHdr (withAt (inRx .atResponse 0x88 4 4 0x8C) { atRec 0 inCap with inPtr := 0x0FFF }) (atrHdr id 0x01)

/-- Another id; the matching id with the whole in_buffer in memory; and with its second byte past memory. -/
theorem witness_AtResponseCompletion :
    ((responseDone 5 1).Receives 0x73 0x73 ∧ (responseDone 5 1).rx.state = .atResponse ∧
      (responseDone 5 1).rx.count = (responseDone 5 1).rx.len ∧ (responseDone 5 1).rx.sum + 0x73 = 0xFF ∧
      (responseDone 5 1).corr.req = some (.atCommand 1) ∧ (responseDone 5 1).rx.hdr[0] ≠ (responseDone 5 1).corr.seqId) ∧
    ((responseDone 1 1).Receives 0x73 0x73 ∧ (responseDone 1 1).rx.state = .atResponse ∧
      (responseDone 1 1).rx.count = (responseDone 1 1).rx.len ∧ (responseDone 1 1).rx.sum + 0x73 = 0xFF ∧
      (responseDone 1 1).corr.req = some (.atCommand 1) ∧ (responseDone 1 1).rx.hdr[0] = (responseDone 1 1).corr.seqId ∧
      Memory.wf (responseDone 1 1).mem = true ∧ tableWf AtRecord.zero (responseDone 1 1).recs.atCmds = true ∧
      (∀ i : Nat, i < ((responseDone 1 1).atRecord 1).inCap.toNat →
        addrValid (responseDone 1 1).params (((responseDone 1 1).atRecord 1).inPtr + i) = true)) ∧
    ((responseDone 1 2).Receives 0x73 0x73 ∧ (responseDone 1 2).rx.state = .atResponse ∧
      (responseDone 1 2).rx.count = (responseDone 1 2).rx.len ∧ (responseDone 1 2).rx.sum + 0x73 = 0xFF ∧
      (responseDone 1 2).corr.req = some (.atCommand 1) ∧ (responseDone 1 2).rx.hdr[0] = (responseDone 1 2).corr.seqId ∧
      tableWf AtRecord.zero (responseDone 1 2).recs.atCmds = true ∧ 1 < ((responseDone 1 2).atRecord 1).inCap.toNat ∧
      addrValid (responseDone 1 2).params (((responseDone 1 2).atRecord 1).inPtr + 1) = false) :=
  ⟨⟨receives_plain _ _ ⟨rfl, rfl⟩ rfl isData_73, rfl, rfl, by decide, rfl, by decide⟩,
    ⟨receives_plain _ _ ⟨rfl, rfl⟩ rfl isData_73, rfl, rfl, by decide, rfl, rfl, by decide, by decide, by decide⟩,
    ⟨receives_plain _ _ ⟨rfl, rfl⟩ rfl isData_73, rfl, rfl, by decide, rfl, rfl, by decide, by decide, by decide⟩⟩

/-- A delivered frame about to complete. -/
def deliveryDone : State := withHdr (withSession (inRx .dataRequested 0x90 11 11 0x8C) (recvRec 0x0300 8)) rxHeader

theorem witness_ReceivePacketCompletion :
    (deliveryDone.Receives 0x73 0x73 ∧ deliveryDone.rx.state = .dataRequested ∧
      deliveryDone.rx.count = deliveryDone.rx.len ∧ deliveryDone.rx.sum + 0x73 = 0xFF ∧
      deliveryDone.corr.sess = some 3) ∧
    ((inRx .data 0x90 11 11 0x8C).Receives 0x73 0x73 ∧ (inRx .data 0x90 11 11 0x8C).rx.state = .data ∧
      (inRx .data 0x90 11 11 0x8C).rx.count = (inRx .data 0x90 11 11 0x8C).rx.len ∧
      (inRx .data 0x90 11 11 0x8C).rx.sum + 0x73 = 0xFF) :=
  ⟨⟨receives_plain _ _ ⟨rfl, rfl⟩ rfl isData_73, rfl, rfl, by decide, rfl⟩,
    receives_plain _ _ ⟨rfl, rfl⟩ rfl isData_73, rfl, rfl, by decide⟩

/-- A PUSH with a next state, and the premises of the two clauses about stores. -/
theorem witness_PushFrame :
    (State.reset.Ready ∧ exec (.push 0x7D) State.reset = .next State.reset.escapeNext) ∧
    ((delivering 11 1).Ready ∧ (delivering 11 1).rx.state = .dataRequested ∧ (delivering 11 1).rx.type = 0x90 ∧
      (delivering 11 1).corr.sess = some 3 ∧ ∃ t, exec (.push 0x73) (delivering 11 1) = .next t ∧ t.fault = none) ∧
    ((responseDone 5 1).Ready ∧ (responseDone 5 1).rx.state = .atResponse ∧
      (responseDone 5 1).corr.req = some (.atCommand 1) ∧
      tableWf AtRecord.zero (responseDone 5 1).recs.atCmds = true ∧
      ∃ t, exec (.push 0x73) (responseDone 5 1) = .next t ∧ t.fault = none) :=
  ⟨⟨⟨rfl, rfl⟩, rfl⟩, ⟨⟨rfl, rfl⟩, rfl, rfl, rfl, _, rfl, rfl⟩, ⟨rfl, rfl⟩, rfl, rfl, by decide, _, rfl, rfl⟩

/-- "He", with room for one byte at the end of memory. -/
theorem witness_ReceiverDeliversTheFrame :
    (withSession State.reset (recvRec 0x0FFF 1)).Ready ∧
      (withSession State.reset (recvRec 0x0FFF 1)).corr.sessPending = true ∧
      (withSession State.reset (recvRec 0x0FFF 1)).corr.sess = some 3 ∧
      Memory.wf (withSession State.reset (recvRec 0x0FFF 1)).mem = true ∧
      tableWf RecvRecord.zero (withSession State.reset (recvRec 0x0FFF 1)).recs.recvs = true ∧
      rxHeader.toList.length = 11 ∧ 12 + ([0x48, 0x65] : List Byte).length ≤ 0xFFFF ∧
      (∀ j : Nat,
        j < min ([0x48, 0x65] : List Byte).length
          ((withSession State.reset (recvRec 0x0FFF 1)).recvRecord 3).cap.toNat →
        addrValid (withSession State.reset (recvRec 0x0FFF 1)).params
          (((withSession State.reset (recvRec 0x0FFF 1)).recvRecord 3).bufPtr + j) = true) ∧
      ((0x11 : Byte) :: (wireFrame (0x90 :: (rxHeader.toList ++ [0x48, 0x65])) ++ [0x13])).filter
          (fun b => !isFlow b) = wireFrame (0x90 :: (rxHeader.toList ++ [0x48, 0x65])) :=
  ⟨⟨rfl, rfl⟩, rfl, rfl, by decide, by decide, rfl, by decide, by decide, by decide⟩

/-- V-CK-2: bit 0 of the status of MS02. -/
theorem witness_ChecksumRejectsABitFlip :
    State.reset.Ready ∧ ([0x8A, 0x02] : List Byte) ≠ [] ∧ ([0x8A, 0x02] : List Byte).length ≤ 0xFFFF ∧
      State.reset.corr.sessPending = false ∧ (frameValues [0x8A, 0x02])[3]? = some 0x02 ∧
      isSpecial 0x02 = false ∧ isSpecial (0x02 ^^^ (1 <<< 0)) = false :=
  ⟨⟨rfl, rfl⟩, by decide, by decide, rfl, rfl, rfl, rfl⟩

/-- The run of P3: three payload bytes in scratch, then a RECEIVE with a buffer of two. -/
def overlapping : State :=
  { (joinedNow State.reset).setRecvRecord 3 (recvRec 0x0FFE 2) with
    inputs :=
      (0x7E :: ((frameValues (0x90 :: (rxHeader.toList ++ ([0x48, 0x65, 0x6C] ++ [0x6C, 0x6F])))).take
        (14 + 3)).flatMap wireValue).map (fun b => .operation (encode (.push b))) ++
      [.operation (encode (.receive 3))] ++ List.replicate (min 3 2) .resume ++
      (((frameValues (0x90 :: (rxHeader.toList ++ ([0x48, 0x65, 0x6C] ++ [0x6C, 0x6F])))).drop
        (14 + 3)).flatMap wireValue).map (fun b => .operation (encode (.push b))) ++
      [.resume] }

theorem overlapping_inv : Inv overlapping where
  ie := rfl
  tx := { header := fun h => absurd rfl h, length := fun h => absurd rfl h, headerIndex := fun h => (nomatch h),
          dataIndex := fun h => (nomatch h), escape := fun h => (nomatch h) }
  rx := { type := fun _ h => (nomatch h), header := fun _ _ h => (nomatch h), count := fun h => h.elim,
          limit := fun h => h.elim (fun h => (nomatch h)) fun h => (nomatch h), data := fun h => (nomatch h),
          dataRequested := fun h => (nomatch h), transmitStatus := fun h => (nomatch h),
          atResponse := fun h => (nomatch h) }
  task := { noOp := fun _ => ⟨rfl, rfl, rfl, rfl, rfl, rfl⟩, submitWait := fun h => (nomatch h),
            expectAt := fun h => (nomatch h), expectTx := fun h => (nomatch h), recvCopy := fun h => (nomatch h),
            recvWait := fun h => (nomatch h), associated := fun h => (nomatch h) }
  store := { mem := rfl, memValid := fun _ h => (nomatch h), scratch := rfl, scratchInside := fun _ h => (nomatch h),
             atCmds := rfl, txDatas := rfl, recvs := by decide }

theorem witness_ReceiveOverlapTruncates :
    Inv overlapping ∧ overlapping.fault = none ∧ overlapping.held = [] ∧ overlapping.task.op = .noOp ∧
      overlapping.corr.assoc = .associated ∧ rxHeader.toList.length = 11 ∧
      12 + ([0x48, 0x65, 0x6C] ++ [0x6C, 0x6F] : List Byte).length ≤ 0xFFFF ∧
      0 < ([0x48, 0x65, 0x6C] : List Byte).length ∧
      ([0x48, 0x65, 0x6C] : List Byte).length ≤ overlapping.params.scratchCapacity.toNat ∧
      2 = (overlapping.recvRecord 3).cap.toNat ∧ 2 < ([0x48, 0x65, 0x6C] ++ [0x6C, 0x6F] : List Byte).length ∧
      (∀ j : Nat, j < 2 → addrValid overlapping.params ((overlapping.recvRecord 3).bufPtr + j) = true) :=
  ⟨overlapping_inv, rfl, rfl, rfl, rfl, rfl, by decide, by decide, by decide, by decide, by decide, by decide⟩

theorem witness_DisassociationAbortsTheSession :
    (withSession State.reset (recvRec 0x0300 8)).Ready ∧
      (withSession State.reset (recvRec 0x0300 8)).corr.sessPending = true := ⟨⟨rfl, rfl⟩, rfl⟩

/-- The longest parameter that fits, and the wrap of the id. -/
theorem witness_SubmitAtPhaseA :
    State.Live (State.reset.setAtRecord 1 (atRec 0xFFFB 0)) ∧
      (State.reset.setAtRecord 1 (atRec 0xFFFB 0)).task.op = .noOp ∧
      (State.reset.setAtRecord 1 (atRec 0xFFFB 0)).tx.state = .idle ∧
      4 + ((State.reset.setAtRecord 1 (atRec 0xFFFB 0)).atRecord 1).outLen.toNat ≤ 0xFFFF ∧
      (0x01 : Byte) = (if (State.reset.setAtRecord 1 (atRec 0xFFFB 0)).corr.seqId = 0xFF then 0x01
        else (State.reset.setAtRecord 1 (atRec 0xFFFB 0)).corr.seqId + 1) := ⟨rfl, rfl, rfl, by decide, by decide⟩

theorem witness_SubmitTxPhaseA :
    State.Live (State.reset.setTxRecord 2 (txRec 0xFFF1)) ∧
      (State.reset.setTxRecord 2 (txRec 0xFFF1)).task.op = .noOp ∧
      (State.reset.setTxRecord 2 (txRec 0xFFF1)).tx.state = .idle ∧
      14 + ((State.reset.setTxRecord 2 (txRec 0xFFF1)).txRecord 2).dataLen.toNat ≤ 0xFFFF ∧
      (0x01 : Byte) = (if (State.reset.setTxRecord 2 (txRec 0xFFF1)).corr.seqId = 0xFF then 0x01
        else (State.reset.setTxRecord 2 (txRec 0xFFF1)).corr.seqId + 1) := ⟨rfl, rfl, rfl, by decide, by decide⟩

/-- The longest frame that fits and the shortest that does not, of each kind. -/
theorem witness_OutgoingHeaderLayouts :
    State.reset.Live ∧
    4 + ((State.reset.setAtRecord 1 (atRec 0xFFFB 0)).atRecord 1).outLen.toNat ≤ 0xFFFF ∧
    14 + ((State.reset.setTxRecord 2 (txRec 0xFFF1)).txRecord 2).dataLen.toNat ≤ 0xFFFF ∧
    0xFFFF < 4 + ((State.reset.setAtRecord 1 (atRec 0xFFFC 0)).atRecord 1).outLen.toNat ∧
    0xFFFF < 14 + ((State.reset.setTxRecord 2 (txRec 0xFFF2)).txRecord 2).dataLen.toNat :=
  ⟨rfl, by decide, by decide, by decide, by decide⟩

/-- The task of a SUBMIT whose frame is sent, with the expectation cleared and not, about to be resumed. -/
def submitted (e : Expect) : State :=
  withMove (withOp { withAt State.reset (atRec 0 0) with
    corr := { State.reset.corr with req := some (.atCommand 1), expect := e, seqId := 1 } } .submitWait) .resume

theorem witness_SubmitPhaseW :
    ((submitted .none).Takes .resume [] ∧ (submitted .none).task.op = .submitWait ∧
      (submitted .none).tx.state = .idle ∧ (submitted .none).corr.expect = .none ∧
      (submitted .none).corr.req = some (.atCommand 1)) ∧
    ((submitted .atResponse).Takes .resume [] ∧ (submitted .atResponse).task.op = .submitWait ∧
      (submitted .atResponse).corr.expect ≠ .none) :=
  ⟨⟨⟨rfl, .inl rfl, rfl⟩, rfl, rfl, rfl, rfl⟩, ⟨rfl, .inl rfl, rfl⟩, rfl, by decide⟩

theorem witness_SequenceIdsWrap : 1 ≤ 256 ∧ (256 - 1) % 255 + 1 = 1 := by decide

/-- A SUBMIT as the next operation. -/
def submitting : State := withMove (State.reset.setAtRecord 1 (atRec 0 0)) (.operation [0b010, 0, 1])

theorem witness_OnlySubmitStartsAFrame :
    ∃ t, step submitting = .next t ∧ t.tx.state = .frameMark ∧ submitting.tx.state = .idle ∧
      t.corr.seqId ≠ submitting.corr.seqId := ⟨_, rfl, rfl, rfl, by decide⟩

theorem witness_ReceiveWhenNotAssociated :
    State.reset.Live ∧ State.reset.task.op = .noOp ∧ State.reset.corr.assoc ≠ .associated := ⟨rfl, rfl, by decide⟩

/-- A frame of which 3 payload bytes have come. -/
def midFrame : State :=
  joinedNow { inRx .data 0x90 16 14 0 with rx := { (inRx .data 0x90 16 14 0).rx with full := 5, limit := 5 } }

theorem witness_ReceiveOpensTheSession :
    ((joinedNow State.reset).Live ∧ (joinedNow State.reset).task.op = .noOp ∧
      (joinedNow State.reset).corr.assoc = .associated ∧ (joinedNow State.reset).rx.state ≠ .data) ∧
    (midFrame.Live ∧ midFrame.task.op = .noOp ∧ midFrame.corr.assoc = .associated ∧ midFrame.rx.state = .data ∧
      3 = (if 11 < midFrame.rx.count.toNat then midFrame.rx.count.toNat - 11 else 0) ∧
      0 = min 3 (midFrame.recvRecord 3).cap.toNat ∧ 0 = min 0 midFrame.rx.limit.toNat) ∧
    2 = min 3 ((midFrame.setRecvRecord 3 (recvRec 0x0300 2)).recvRecord 3).cap.toNat :=
  ⟨⟨rfl, rfl, rfl, by decide⟩, ⟨rfl, rfl, rfl, rfl, by decide, by decide, by decide⟩, by decide⟩

/-- A copy of `k` bytes, `c` of them held by scratch, at index `i`, to the last byte of memory. -/
def copyingAt (k c i : U16) : State :=
  withMove { withSession State.reset (recvRec 0x0FFF 8) with
    task := { wait := .none, op := .recvCopy, copyK := k, copyC := c, copyI := i } } .resume

/-- The last address that is valid, and the first that is not. -/
theorem witness_ReceiveCopiesOneByte :
    ((copyingAt 1 0 0).Takes .resume [] ∧ (copyingAt 1 0 0).task.op = .recvCopy ∧
      (copyingAt 1 0 0).corr.sess = some 3 ∧
      0x0FFF = ((copyingAt 1 0 0).recvRecord 3).bufPtr + (copyingAt 1 0 0).task.copyI.toNat ∧
      addrValid (copyingAt 1 0 0).params 0x0FFF = true ∧ Memory.wf (copyingAt 1 0 0).mem = true) ∧
    ((copyingAt 2 0 1).Takes .resume [] ∧ (copyingAt 2 0 1).task.op = .recvCopy ∧
      (copyingAt 2 0 1).corr.sess = some 3 ∧
      0x1000 = ((copyingAt 2 0 1).recvRecord 3).bufPtr + (copyingAt 2 0 1).task.copyI.toNat ∧
      addrValid (copyingAt 2 0 1).params 0x1000 = false) :=
  ⟨⟨⟨rfl, .inl rfl, rfl⟩, rfl, rfl, by decide, by decide, by decide⟩,
    ⟨rfl, .inl rfl, rfl⟩, rfl, rfl, by decide, by decide⟩

/-- The task of a RECEIVE that waits, about to be resumed. -/
def waiting (pending : Bool) : State :=
  withMove { withSession State.reset (recvRec 0x0300 8) with
    corr := { State.reset.corr with sess := some 3, sessPending := pending } } .resume

theorem witness_ReceivePhaseW :
    ((waiting false).Takes .resume [] ∧ (waiting false).task.op = .recvWait ∧
      (waiting false).corr.sessPending = false) ∧
    ((waiting true).Takes .resume [] ∧ (waiting true).task.op = .recvWait ∧ (waiting true).corr.sessPending = true) :=
  ⟨⟨⟨rfl, .inl rfl, rfl⟩, rfl, rfl⟩, ⟨rfl, .inl rfl, rfl⟩, rfl, rfl⟩

theorem witness_AssocReadReturns :
    (State.reset.Live ∧ State.reset.task.op = .noOp) ∧
    ((withOp State.reset .submitWait).Live ∧ (withOp State.reset .submitWait).task.op ≠ .noOp) :=
  ⟨⟨rfl, rfl⟩, rfl, by decide⟩

/-- MS02's last byte as the next operation. -/
theorem witness_OnlyModemStatusChangesAssociation :
    ∃ t, step (withMove (completing 0x02) (.operation [0b000, 0x73])) = .next t ∧
      t.corr.assoc ≠ (withMove (completing 0x02) (.operation [0b000, 0x73])).corr.assoc := ⟨_, rfl, by decide⟩

theorem witness_StepsRestoreInterruptEnable :
    step (withMove masked (.operation [0b101])) = .next (masked.report (.assocReturned false)) := rfl

/-- A frame being delivered, about to be pushed a payload byte: it meets the invariant. -/
def pushing : State := withMove (delivering 11 1) (.operation [0b000, 0x73])

theorem pushing_inv : Inv pushing where
  ie := rfl
  tx := { header := fun h => absurd rfl h, length := fun h => absurd rfl h, headerIndex := fun h => (nomatch h),
          dataIndex := fun h => (nomatch h), escape := fun h => (nomatch h) }
  rx := { type := fun b h => by cases h; rfl, header := fun b h hb hh => by cases hb; cases hh; decide,
          count := fun _ => by decide, limit := fun _ => ⟨rfl, by decide⟩, data := fun h => (nomatch h),
          dataRequested := fun _ => rfl, transmitStatus := fun h => (nomatch h),
          atResponse := fun h => (nomatch h) }
  task := { noOp := fun h => (nomatch h), submitWait := fun h => (nomatch h), expectAt := fun h => (nomatch h),
            expectTx := fun h => (nomatch h), recvCopy := fun h => (nomatch h),
            recvWait := fun _ => ⟨rfl, rfl, rfl, rfl, by decide⟩, associated := fun _ => rfl }
  store := { mem := rfl, memValid := fun _ h => (nomatch h), scratch := rfl, scratchInside := fun _ h => (nomatch h),
             atCmds := rfl, txDatas := rfl, recvs := by decide }

theorem witness_StepKeepsInv : Inv pushing ∧ ∃ t, step pushing = .next t ∧ t.mem = [(0x0FFF, 0x73)] :=
  ⟨pushing_inv, _, rfl, by decide⟩

theorem witness_EveryMoveComesToANextState : Inv pushing ∧ pushing.fault = none := ⟨pushing_inv, rfl⟩

end Sys2Proof.Tests
end

section
/-! What one step can do, as one inversion that the statements about all steps share. -/

namespace Sys2Proof.Machine

variable {s t : State}

/-! Only the operations of R87 come from the environment. -/

theorem format_of_decodeOp {op : Byte} {bytes rest : List Byte} {i : Instr}
    (h : decodeOp op bytes = .ok (i, rest)) : i.format = .op3 := by
  unfold decodeOp withByte withRef at h
  repeat' split at h
  all_goals cases h
  all_goals rfl

theorem format_of_decodeOperation {bytes : List Byte} {i : Instr} (h : decodeOperation bytes = .ok i) :
    i.format = .op3 := by
  unfold decodeOperation at h
  split at h
  · cases h
  · rename_i j hj
    cases h
    cases bytes with
    | nil => cases hj
    | cons b rest => exact format_of_decodeOp hj
  · cases h

/-! Task phases, as the fields they change. -/

/-- RECEIVE's phase A where it opens the session (R144): a frame in Data is re-pointed, all else is set up anew. -/
def State.startReceive (s : State) (r : Ref) : State :=
  ({ s with rx := (s.repoint (s.recvRecord r).cap).rx } : State).openSession r
    (s.copyLength (s.recvRecord r).cap) (s.copyFromScratch (s.recvRecord r).cap)

theorem repoint_eq (cap : U16) : s.repoint cap = { s with rx := (s.repoint cap).rx } := by
  unfold State.repoint; split <;> rfl

theorem repoint_rx_masked (cap : U16) (b : Bool) :
    (({ s with ie := b } : State).repoint cap).rx = (s.repoint cap).rx := by
  unfold State.repoint; dsimp only; split <;> rfl

theorem copyDrawn_eq : s.copyDrawn =
    { s with draws := if s.task.copyI.toNat < s.task.copyC.toNat then s.draws else s.draws + 1 } := by
  unfold State.copyDrawn; split <;> rfl

/-- What one step does to the block, once the byte event or the move it takes is off its list: one case for
each way in which a step can come to a next state. -/
inductive Move (s : State) : State → Prop
  /-- nothing moves: no input, a spurious resumption, or a caller's write to no valid address -/
  | stay : Move s s
  /-- a byte event while callbacks are masked (R167) -/
  | hold (e : ByteEvent) : Move s { s with held := s.held ++ [e] }
  /-- a model fault (R161) -/
  | raise (f : FaultCode) : Move s (s.raise f)
  | push (b : Byte) (t : State) (ok : s.pushBody b = .ok t) : Move s t
  | pull (t : State) (ok : s.pullBody = .ok t) : Move s t
  /-- phase A of SUBMIT_AT (R132) -/
  | submitAt (d : Ref) (noOp : s.task.op = .noOp) (idle : s.tx.state = .idle)
      (fits : frameLength 4 (s.atRecord d).outLen ≤ 0xFFFF) :
      Move s ((s.issueId.loadAtCommand (s.atRecord d)).startRequest (.atCommand d) .atResponse)
  /-- phase A of SUBMIT_TX (R133) -/
  | submitTx (d : Ref) (noOp : s.task.op = .noOp) (idle : s.tx.state = .idle)
      (fits : frameLength 14 (s.txRecord d).dataLen ≤ 0xFFFF) :
      Move s ((s.issueId.loadTransmitRequest (s.txRecord d)).startRequest (.transmitData d) .transmitStatus)
  /-- a command that returns at once: ASSOC_READ (R145), RECEIVE while not associated (R146) -/
  | answer (e : TaskEvent) : Move s (s.report e)
  /-- phase A of RECEIVE (R144) -/
  | receive (r : Ref) (noOp : s.task.op = .noOp) (associated : s.corr.assoc = .associated) :
      Move s (s.startReceive r)
  /-- phase W of SUBMIT (R137, R138) -/
  | submitReturns (q : ReqRef) (op : s.task.op = .submitWait) (idle : s.tx.state = .idle)
      (expect : s.corr.expect = .none) :
      Move s ({ s with task := { s.task with wait := .none, op := .noOp }
                       corr := { s.corr with req := none } }.report (.submitReturned (s.requestResult q)))
  /-- phase B of RECEIVE (R150) -/
  | copy (r : Ref) (op : s.task.op = .recvCopy)
      (valid : addrValid s.params ((s.recvRecord r).bufPtr + s.task.copyI.toNat) = true) :
      Move s { s with
        mem := Memory.write s.mem ((s.recvRecord r).bufPtr + s.task.copyI.toNat) s.copyByte
        draws := if s.task.copyI.toNat < s.task.copyC.toNat then s.draws else s.draws + 1
        task := s.task.afterCopy }
  /-- phase W of RECEIVE (R151, R152) -/
  | receiveReturns (op : s.task.op = .recvWait) (clear : s.corr.sessPending = false) :
      Move s ({ s with task := { s.task with wait := .none, op := .noOp }
                       corr := { s.corr with sess := none } }.report (.receiveReturned s.corr.sessSuccess))
  | callerByte (a : Nat) (v : Byte) (valid : addrValid s.params a = true) :
      Move s { s with mem := Memory.write s.mem a v }
  | callerAt (d : Ref) (v : AtRecord) : Move s (s.setAtRecord d v)
  | callerTx (d : Ref) (v : TxRecord) : Move s (s.setTxRecord d v)
  | callerRecv (d : Ref) (v : RecvRecord) : Move s (s.setRecvRecord d v)

/-! Each way to a next state is a move. -/

theorem Move.of_settle {r : Res} (h : settle s r = .next t) (hr : ∀ u, r = .ok u → Move s u) : Move s t := by
  obtain hok | ⟨f, -, rfl⟩ := (settle_eq_next s t r).mp h
  · exact hr t hok
  · exact .raise f

theorem Move.of_taskPhase {r : Res} (h : taskPhase s r = .next t) (hr : ∀ u, r = .ok u → Move s u) : Move s t := by
  obtain ⟨hf, -⟩ := (taskPhase_eq_next s t r).mp h
  exact .of_settle (taskPhase_of_live s r hf ▸ h) hr

theorem Move.of_deliver {e : ByteEvent} {r : Res} (h : deliver e s r = .next t) (hr : ∀ u, r = .ok u → Move s u) :
    Move s t := by
  obtain ⟨-, ⟨-, hok | ⟨f, -, rfl⟩⟩ | ⟨-, rfl⟩⟩ := (deliver_eq_next s t e r).mp h
  · exact hr t hok
  · exact .raise f
  · exact .hold e

theorem Move.of_submitAt {d : Ref} (h : s.critical (State.submitAtBody d) = .ok t) : Move s t := by
  obtain ⟨u, hu, rfl⟩ := (State.critical_eq_ok s t _).mp h
  obtain ⟨hop, hidle, hfits, hu⟩ := (submitChecks_eq_ok _ _ _ _ _).mp hu
  cases hu
  exact .submitAt d hop hidle hfits

theorem Move.of_submitTx {d : Ref} (h : s.critical (State.submitTxBody d) = .ok t) : Move s t := by
  obtain ⟨u, hu, rfl⟩ := (State.critical_eq_ok s t _).mp h
  obtain ⟨hop, hidle, hfits, hu⟩ := (submitChecks_eq_ok _ _ _ _ _).mp hu
  cases hu
  exact .submitTx d hop hidle hfits

/-- Opening the session inside a critical section, and then restoring `ie` (R42). -/
theorem openSession_masked (r : Ref) :
    { ((({ s with ie := false } : State).repoint (s.recvRecord r).cap).openSession r
        (s.copyLength (s.recvRecord r).cap) (s.copyFromScratch (s.recvRecord r).cap)) with ie := s.ie } =
      s.startReceive r := by
  rw [repoint_eq, repoint_rx_masked]
  rfl

theorem Move.of_receive {r : Ref} (h : s.critical (State.receiveBody r) = .ok t) : Move s t := by
  obtain ⟨u, hu, rfl⟩ := (State.critical_eq_ok s t _).mp h
  unfold State.receiveBody at hu
  split at hu
  · cases hu
  next hop =>
    split at hu
    · cases hu
      exact .answer _
    next ha =>
      cases hu
      exact openSession_masked (s := s) r ▸ .receive r (not_not.mp hop) (by simpa [State.associated] using ha)

theorem Move.of_assocRead (h : s.critical State.assocReadBody = .ok t) : Move s t := by
  obtain ⟨u, hu, rfl⟩ := (State.critical_eq_ok s t _).mp h
  unfold State.assocReadBody at hu
  split at hu
  · cases hu
  · cases hu
    exact .answer _

/-- An operation of R87 that comes to a next state makes a move. -/
theorem Move.of_exec {i : Instr} (hi : i.format = .op3) (h : exec i s = .next t) : Move s t := by
  cases i with
  | push b => exact .of_deliver h fun u => .push b u
  | pull => exact .of_deliver h fun u => .pull u
  | submitAt d => exact .of_taskPhase h fun _ => .of_submitAt
  | submitTx d => exact .of_taskPhase h fun _ => .of_submitTx
  | receive r => exact .of_taskPhase h fun _ => .of_receive
  | assocRead => exact .of_taskPhase h fun _ => .of_assocRead
  | reserved110 | reserved111 => exact .of_taskPhase h fun _ hr => by cases hr
  | _ => nomatch hi

theorem Move.of_submitPhaseW (hop : s.task.op = .submitWait) (h : s.submitPhaseW = .ok t) : Move s t := by
  unfold State.submitPhaseW at h
  split at h
  next hd =>
    have hd : s.tx.state = .idle ∧ s.corr.expect = .none := by simpa [State.submitDone] using hd
    split at h
    · cases h
    next q _ =>
      cases h
      exact .submitReturns q hop hd.1 hd.2
  · cases h
    exact .stay

theorem Move.of_receivePhaseB (hop : s.task.op = .recvCopy) (h : s.receivePhaseB = .ok t) : Move s t := by
  unfold State.receivePhaseB at h
  split at h
  · cases h
  next r _ =>
    split at h
    · cases h
    next u hu =>
      obtain ⟨hv, rfl⟩ := (State.memWrite_eq_some _ _ _ _).mp hu
      cases h
      rw [copyDrawn_eq]
      exact .copy r hop hv

theorem Move.of_receivePhaseW (hop : s.task.op = .recvWait) (h : s.receivePhaseW = .ok t) : Move s t := by
  unfold State.receivePhaseW at h
  split at h
  next hc =>
    cases h
    exact .receiveReturns hop (by simpa [State.sessionClear] using hc)
  · cases h
    exact .stay

/-- A resumption of the task that comes to its end makes a move. -/
theorem Move.of_resumeTask (h : s.resumeTask = .ok t) : Move s t := by
  unfold State.resumeTask at h
  split at h
  · cases h
    exact .stay
  next hop => exact .of_submitPhaseW hop h
  next hop => exact .of_receivePhaseB hop h
  next hop => exact .of_receivePhaseW hop h

theorem Move.of_callerWrite (a : Nat) (v : Byte) : Move s (s.callerWrite a v) := by
  unfold State.callerWrite
  cases hw : s.memWrite a v with
  | none => exact .stay
  | some u =>
    obtain ⟨hv, rfl⟩ := (State.memWrite_eq_some _ _ _ _).mp hw
    exact .callerByte a v hv

/-- Every step that comes to a next state takes at most one byte event or one input off its list and makes a
move (R57, R58, R62). -/
theorem step_move (h : step s = .next t) :
    ∃ held inputs, Move { s with held := held, inputs := inputs } t := by
  obtain ⟨-, ⟨e, rest, -, -, he⟩ | ⟨-, rfl⟩ | ⟨i, rest, u, -, rfl, hi⟩⟩ := step_eq_next s t h
  · exact ⟨rest, s.inputs, .of_exec (by cases e <;> rfl) he⟩
  · exact ⟨t.held, t.inputs, .stay⟩
  · refine ⟨s.held, rest, ?_⟩
    cases i with
    | operation bytes =>
      obtain ⟨j, hd, hj⟩ := hi
      exact .of_exec (format_of_decodeOperation hd) hj
    | resume => exact .of_settle hi fun _ => .of_resumeTask
    | callerByte a v => exact hi ▸ .of_callerWrite a v
    | callerAt d r => exact hi ▸ .callerAt d r
    | callerTx d r => exact hi ▸ .callerTx d r
    | callerRecv d r => exact hi ▸ .callerRecv d r

end Sys2Proof.Machine
end

section
/-! PULL: what it may change, and the Transmitter's part of the invariant. -/

namespace Sys2Proof.Machine

variable {s t : State}

/-- Everything a PULL that comes to its end can be: the held byte, or the byte of its state (R91). -/
inductive PullCase (s : State) : State → Prop
  | held : PullCase s s.pullHeld
  | idle : PullCase s (s.emit none)
  | frameMark (hs : s.tx.state = .frameMark) : PullCase s s.pullFrameMark
  | length1 (hs : s.tx.state = .length1) : PullCase s s.pullLength1
  | length2 (hs : s.tx.state = .length2) : PullCase s s.pullLength2
  | header (raw : Byte) (hs : s.tx.state = .header) :
      PullCase s (({ s with tx := s.tx.afterHeaderByte raw } : State).txEsc raw)
  | data (raw : Byte) (hs : s.tx.state = .data) :
      PullCase s (({ s with tx := s.tx.afterPayloadByte raw } : State).txEsc raw)
  | checksum : PullCase s s.pullChecksum

theorem pullHeader_case (hs : s.tx.state = .header) (h : s.pullHeader = .ok t) : PullCase s t := by
  unfold State.pullHeader at h
  split at h
  · cases h
  · cases h
    exact .header _ hs

theorem pullData_case (hs : s.tx.state = .data) (h : s.pullData = .ok t) : PullCase s t := by
  unfold State.pullData at h
  split at h
  · cases h
  · cases h
    exact .data _ hs

theorem pullBody_case (h : s.pullBody = .ok t) : PullCase s t := by
  unfold State.pullBody at h
  split at h
  · cases h; exact .held
  · split at h
    next => cases h; exact .idle
    next hs => cases h; exact .frameMark hs
    next hs => cases h; exact .length1 hs
    next hs => cases h; exact .length2 hs
    next hs => exact pullHeader_case hs h
    next hs => exact pullData_case hs h
    next => cases h; exact .checksum

/-! The frame of PULL. -/

/-- Transmitter fields `y` keep the frame set-up fields of `x`, and stay in Idle (R26, R93, R100). -/
structure TxRegs.KeepsSetUp (x y : TxRegs) : Prop where
  hdr : y.hdr = x.hdr
  hdrLen : y.hdrLen = x.hdrLen
  pptr : y.pptr = x.pptr
  plen : y.plen = x.plen
  flen : y.flen = x.flen
  idle : x.state = .idle → y.state = .idle

theorem TxRegs.keepsSetUp_afterHeaderByte {x : TxRegs} (raw : Byte) (hs : x.state = .header) :
    x.KeepsSetUp (x.afterHeaderByte raw) := by
  unfold TxRegs.afterHeaderByte
  split <;> exact ⟨rfl, rfl, rfl, rfl, rfl, by simp [hs]⟩

theorem TxRegs.keepsSetUp_afterPayloadByte {x : TxRegs} (raw : Byte) (hs : x.state = .data) :
    x.KeepsSetUp (x.afterPayloadByte raw) := by
  unfold TxRegs.afterPayloadByte
  split <;> exact ⟨rfl, rfl, rfl, rfl, rfl, by simp [hs]⟩

/-- `t` is `s` after one result was put out: only the Transmitter and the list of results differ. -/
def State.PullsTo (s t : State) : Prop :=
  ∃ x o, s.tx.KeepsSetUp x ∧ t = { s with tx := x, out := { s.out with pulled := o :: s.out.pulled } }

theorem State.PullsTo.emit {x : TxRegs} (o : Option Byte) (hx : s.tx.KeepsSetUp x) :
    s.PullsTo (({ s with tx := x } : State).emit o) := ⟨x, o, hx, rfl⟩

theorem State.PullsTo.txEsc {x : TxRegs} (raw : Byte) (hx : s.tx.KeepsSetUp x) :
    s.PullsTo (({ s with tx := x } : State).txEsc raw) := by
  unfold State.txEsc
  split
  · exact .emit (some 0x7D) (x := { x with escPending := true, escByte := escapeMask raw }) { hx with }
  · exact .emit _ hx

theorem PullCase.pullsTo (h : PullCase s t) : s.PullsTo t := by
  cases h with
  | held => exact .emit _ ⟨rfl, rfl, rfl, rfl, rfl, id⟩
  | idle => exact .emit _ ⟨rfl, rfl, rfl, rfl, rfl, id⟩
  | frameMark hs => exact .emit _ ⟨rfl, rfl, rfl, rfl, rfl, by simp [hs]⟩
  | length1 hs => exact .txEsc _ ⟨rfl, rfl, rfl, rfl, rfl, by simp [hs]⟩
  | length2 hs => exact .txEsc _ ⟨rfl, rfl, rfl, rfl, rfl, by simp [hs]⟩
  | header raw hs => exact .txEsc _ (TxRegs.keepsSetUp_afterHeaderByte raw hs)
  | data raw hs => exact .txEsc _ (TxRegs.keepsSetUp_afterPayloadByte raw hs)
  | checksum => exact .txEsc _ ⟨rfl, rfl, rfl, rfl, rfl, fun _ => rfl⟩

/-- Settles O18: a PULL changes only the Transmitter and its list of results, or records a fault. -/
theorem pullFrame : Obligations.PullFrame := by
  intro s t hr h
  rw [execPull_of_ready s hr] at h
  obtain hok | ⟨f, -, rfl⟩ := (settle_eq_next s t _).mp h
  · obtain ⟨x, o, hx, rfl⟩ := (pullBody_case hok).pullsTo
    simp [hx.hdr, hx.hdrLen, hx.pptr, hx.plen, hx.flen, hr.1]
  · simp

/-! The Transmitter's part of the invariant. -/

theorem escapeMask_of_special (raw : Byte) : isSpecial raw = true →
    escapeMask raw = 0x5E ∨ escapeMask raw = 0x5D ∨ escapeMask raw = 0x31 ∨ escapeMask raw = 0x33 := by
  revert raw; decide

theorem TxInv.txEsc {raw : Byte} (h : TxInv s.tx) : TxInv (s.txEsc raw).tx := by
  rw [State.txEsc_tx]
  split
  next hs => exact { h with escape := fun _ => escapeMask_of_special raw hs }
  · exact h

/-- A Transmitter that is sending may come to another state when its index fits that state (R96, R97). -/
theorem TxInv.setState {x : TxRegs} {st : TxState} (h : TxInv x) (hx : x.state ≠ .idle) (sum : Byte) (idx : U16)
    (hh : st = .header → idx.toNat < x.hdrLen.toNat) (hd : st = .data → idx.toNat < x.plen.toNat) :
    TxInv { x with state := st, sum := sum, idx := idx } where
  header _ := h.header hx
  length _ := h.length hx
  headerIndex := hh
  dataIndex := hd
  escape := h.escape

theorem TxInv.hdrLen_pos {x : TxRegs} (h : TxInv x) (hx : x.state ≠ .idle) : 0 < x.hdrLen.toNat := by
  obtain ⟨-, hl⟩ | ⟨-, hl⟩ := h.header hx <;> simp [hl]

/-- An index inside `n` bytes that does not reach the end stays inside them. -/
theorem succ_toNat_lt {n : Nat} {i l : U16} (hl : l.toNat = n) (hi : i.toNat < n) (hne : i + 1 ≠ l) :
    (i + 1).toNat < n := by
  have hne' : (i + 1).toNat ≠ l.toNat := fun he => hne (BitVec.eq_of_toNat_eq he)
  bv_omega

theorem TxInv.afterHeaderByte {x : TxRegs} (h : TxInv x) (hs : x.state = .header) (raw : Byte) :
    TxInv (x.afterHeaderByte raw) := by
  have hx : x.state ≠ .idle := by simp [hs]
  unfold TxRegs.afterHeaderByte
  split
  next =>
    refine h.setState hx _ _ (fun hst => ?_) (fun hst => ?_)
    · split at hst <;> cases hst
    · split at hst
      next hp => exact hp
      next => cases hst
  next hne =>
    have hlen : (x.hdrLen.setWidth 16).toNat = x.hdrLen.toNat := BitVec.toNat_setWidth_of_le (by decide)
    exact h.setState hx _ _ (fun _ => succ_toNat_lt hlen (h.headerIndex hs) hne) (by simp [hs])

theorem TxInv.afterPayloadByte {x : TxRegs} (h : TxInv x) (hs : x.state = .data) (raw : Byte) :
    TxInv (x.afterPayloadByte raw) := by
  have hx : x.state ≠ .idle := by simp [hs]
  unfold TxRegs.afterPayloadByte
  split
  next => exact h.setState hx _ _ nofun nofun
  next hne => exact h.setState hx _ _ (by simp [hs]) (fun _ => succ_toNat_lt rfl (h.dataIndex hs) hne)

theorem PullCase.txInv (hi : TxInv s.tx) (h : PullCase s t) : TxInv t.tx := by
  cases h with
  | held => exact { hi with escape := nofun }
  | idle => exact hi
  | frameMark hs => exact hi.setState (by simp [hs]) 0 _ nofun nofun
  | length1 hs => exact TxInv.txEsc (hi.setState (by simp [hs]) _ _ nofun nofun)
  | length2 hs =>
    have hx : s.tx.state ≠ .idle := by simp [hs]
    exact TxInv.txEsc (hi.setState hx _ 0 (fun _ => hi.hdrLen_pos hx) nofun)
  | header raw hs => exact TxInv.txEsc (hi.afterHeaderByte hs raw)
  | data raw hs => exact TxInv.txEsc (hi.afterPayloadByte hs raw)
  | checksum =>
    exact TxInv.txEsc { hi with
      header := fun h => absurd rfl h, length := fun h => absurd rfl h, headerIndex := nofun, dataIndex := nofun }

end Sys2Proof.Machine
end

section
/-! PUSH: what a value may change, state by state of the Receiver. -/

namespace Sys2Proof.Machine

variable {s t : State}

/-- Everything a value that comes to its end can do (R108 to R128). The Receiver's registers are left open where
nothing outside them but the trace changes, and the values written where no statement needs them. -/
inductive RxEffect (s : State) : State → Prop
  | registers (x : RxRegs) (ds : List DiscardReason) (hx : x.scratch = s.rx.scratch) :
      RxEffect s { s with rx := x, out := { s.out with discards := ds } }
  | scratch (j : Nat) (v : Byte) (hs : s.rx.state = .data) (hj : j < s.rx.limit.toNat) :
      RxEffect s ((s.storeScratch j v).countByte v)
  | session (r : Ref) (h : Nat) (v : Byte) (hs : s.rx.state = .dataRequested) (hh : headerSize s.rx.type = some h)
      (hr : s.corr.sess = some r)
      (valid : addrValid s.params ((s.recvRecord r).bufPtr + (s.rx.count.toNat - h)) = true) :
      RxEffect s (({ s with mem := Memory.write s.mem ((s.recvRecord r).bufPtr + (s.rx.count.toNat - h)) v
                     } : State).countByte v)
  | joined (hs : s.rx.state = .modemStatus) : RxEffect s (s.joined.setRxState .frameMark)
  | left (hs : s.rx.state = .modemStatus) : RxEffect s (s.left.setRxState .frameMark)
  | transmitStatus (q : ReqRef) (v : Byte) (hs : s.rx.state = .transmitStatus) :
      RxEffect s ((s.setRequestResult q v).clearExpect.setRxState .frameMark)
  | atResponse (q : ReqRef) (v : Byte) (hs : s.rx.state = .atResponse) :
      RxEffect s ((s.setRequestResult q v).setRxState .frameMark)
  | drawn (d : Ref) (v : Byte) (m : List Host.Cell) (n : Nat) (hs : s.rx.state = .atResponse)
      (hq : s.corr.req = some (.atCommand d))
      (hm : (s.setRequestResult (.atCommand d) v).clearExpect.drawInBuffer (.atCommand d) =
        .ok { (s.setRequestResult (.atCommand d) v).clearExpect with mem := m, draws := n }) :
      RxEffect s (({ (s.setRequestResult (.atCommand d) v).clearExpect with mem := m, draws := n } : State).setRxState
        .frameMark)
  | delivered (r : Ref) (d : RecvRecord) (hs : s.rx.state = .dataRequested) :
      RxEffect s (({ s.setRecvRecord r d with
        corr := { s.corr with sessSuccess := true, sessPending := false } } : State).setRxState .frameMark)

/-! The type byte and the body bytes, inverted once. -/

/-- Everything the type byte can do (R112 to R117): discard the frame, or accept one whose header fits. -/
inductive TypeCase (s : State) : State → Prop
  | discard (v : Byte) (r : DiscardReason) : TypeCase s ((s.startBody v).discard r)
  | modemStatus (hl : 1 ≤ s.rx.len.toNat) : TypeCase s ((s.startBody 0x8A).setRxState .modemStatus)
  | transmitStatus (hl : 6 ≤ s.rx.len.toNat) (he : s.corr.expect = .transmitStatus) :
      TypeCase s ((s.startBody 0x8B).setRxState .transmitStatus)
  | atResponse (hl : 4 ≤ s.rx.len.toNat) (he : s.corr.expect = .atResponse) :
      TypeCase s ((s.startBody 0x88).setRxState .atResponse)
  | toSession (cap : U16) (hl : 11 ≤ s.rx.len.toNat) (hp : s.corr.sessPending = true) :
      TypeCase s { s.startBody 0x90 with rx := { (s.startBody 0x90).rx with
        full := s.rx.len - 11, limit := minLen (s.rx.len - 11) cap, state := .dataRequested } }
  | toScratch (hl : 11 ≤ s.rx.len.toNat) (hp : s.corr.sessPending = false) :
      TypeCase s { s.startBody 0x90 with rx := { (s.startBody 0x90).rx with
        full := s.rx.len - 11, limit := minLen (s.rx.len - 11) s.params.scratchCapacity, state := .data } }

theorem acceptModemStatus_case : TypeCase s (s.startBody 0x8A).acceptModemStatus := by
  unfold State.acceptModemStatus
  split
  · exact .discard _ _
  next hl => exact .modemStatus (not_lt.mp hl)

theorem acceptTransmitStatus_case : TypeCase s (s.startBody 0x8B).acceptTransmitStatus := by
  unfold State.acceptTransmitStatus
  split
  · exact .discard _ _
  next he =>
    split
    · exact .discard _ _
    next hl => exact .transmitStatus (not_lt.mp hl) (not_not.mp he)

theorem acceptAtResponse_case : TypeCase s (s.startBody 0x88).acceptAtResponse := by
  unfold State.acceptAtResponse
  split
  · exact .discard _ _
  next he =>
    split
    · exact .discard _ _
    next hl => exact .atResponse (not_lt.mp hl) (not_not.mp he)

theorem acceptReceivePacket_case (h : (s.startBody 0x90).acceptReceivePacket = .ok t) : TypeCase s t := by
  unfold State.acceptReceivePacket at h
  split at h
  · cases h; exact .discard _ _
  next hl =>
    dsimp only at h
    split at h
    next hp =>
      split at h
      · cases h
      next r _ => cases h; exact .toSession (s.recvRecord r).cap (not_lt.mp hl) hp
    next hp => cases h; exact .toScratch (not_lt.mp hl) (Bool.eq_false_iff.mpr hp)

theorem typeByte_case {v : Byte} (h : s.typeByte v = .ok t) : TypeCase s t := by
  unfold State.typeByte at h
  split at h
  next hv => cases hv; cases h; exact acceptModemStatus_case
  next =>
    split at h
    next hv => cases hv; cases h; exact acceptTransmitStatus_case
    next =>
      split at h
      next hv => cases hv; cases h; exact acceptAtResponse_case
      next =>
        split at h
        next hv => cases hv; exact acceptReceivePacket_case h
        next => cases h; exact .discard v .type

/-- Everything a body byte that comes to its end can do (R118 to R120): it is counted, and stored in the header, in
scratch, in the session's buffer, or not at all. -/
inductive BodyCase (s : State) (v : Byte) : State → Prop
  | header : BodyCase s v ((s.storeHeader v).countByte v)
  | ignored : BodyCase s v (s.countByte v)
  | scratch (j : Nat) (hs : s.rx.state = .data) (hj : j < s.rx.limit.toNat) :
      BodyCase s v ((s.storeScratch j v).countByte v)
  | session (r : Ref) (h : Nat) (hs : s.rx.state = .dataRequested) (hh : headerSize s.rx.type = some h)
      (hr : s.corr.sess = some r)
      (valid : addrValid s.params ((s.recvRecord r).bufPtr + (s.rx.count.toNat - h)) = true) :
      BodyCase s v (({ s with mem := Memory.write s.mem ((s.recvRecord r).bufPtr + (s.rx.count.toNat - h)) v
                       } : State).countByte v)

theorem payloadToScratch_case {v : Byte} (j : Nat) (hs : s.rx.state = .data) :
    BodyCase s v ((s.payloadToScratch j v).countByte v) := by
  unfold State.payloadToScratch
  split
  next hj => exact .scratch j hs hj
  · exact .ignored

theorem payloadToSession_case {v : Byte} {h : Nat} (hs : s.rx.state = .dataRequested)
    (hh : headerSize s.rx.type = some h) (ht : s.payloadToSession (s.rx.count.toNat - h) v = .ok t) :
    BodyCase s v (t.countByte v) := by
  unfold State.payloadToSession at ht
  split at ht
  · split at ht
    · cases ht
    next r hr =>
      split at ht
      · cases ht
      next hw =>
        obtain ⟨hv, rfl⟩ := (State.memWrite_eq_some _ _ _ _).mp hw
        cases ht
        exact .session r h hs hh hr hv
  · cases ht
    exact .ignored

theorem payloadByte_case {v : Byte} {h : Nat} (hh : headerSize s.rx.type = some h)
    (ht : s.payloadByte h v = .ok t) : BodyCase s v (t.countByte v) := by
  unfold State.payloadByte at ht
  split at ht
  next hs => cases ht; exact payloadToScratch_case _ hs
  next hs => exact payloadToSession_case hs hh ht
  all_goals cases ht; exact .ignored

theorem bodyByte_case {v : Byte} (ht : s.bodyByte v = .ok t) : BodyCase s v t := by
  unfold State.bodyByte at ht
  split at ht
  · cases ht
  next h hh =>
    split at ht
    · cases ht
      exact .header
    · obtain ⟨u, hu, ht⟩ := (Res.andThen_eq_ok _ _ _).mp ht
      cases ht
      exact payloadByte_case hh hu

/-! Each value that comes to its end has one of the effects. -/

theorem TypeCase.effect (h : TypeCase s t) : RxEffect s t := by
  cases h with
  | discard v r => exact .registers _ _ rfl
  | modemStatus | transmitStatus | atResponse | toSession | toScratch => exact .registers _ s.out.discards rfl

theorem BodyCase.effect {v : Byte} (h : BodyCase s v t) : RxEffect s t := by
  cases h with
  | header => exact .registers _ s.out.discards rfl
  | ignored => exact .registers _ s.out.discards rfl
  | scratch j hs hj => exact .scratch j v hs hj
  | session r h hs hh hr valid => exact .session r h v hs hh hr valid

theorem completeModemStatus_effect (hs : s.rx.state = .modemStatus) :
    RxEffect s (s.completeModemStatus.setRxState .frameMark) := by
  unfold State.completeModemStatus
  split
  · exact .joined hs
  · split
    · exact .left hs
    · exact .registers _ s.out.discards rfl

theorem completeTransmitStatus_effect (hs : s.rx.state = .transmitStatus) (h : s.completeTransmitStatus = .ok t) :
    RxEffect s (t.setRxState .frameMark) := by
  unfold State.completeTransmitStatus at h
  split at h
  · cases h
  next q _ => cases h; exact .transmitStatus q _ hs

theorem drawInBuffer_atCommand (d : Ref) :
    s.drawInBuffer (.atCommand d) = State.drawInto (s.atRecord d).inCap.toNat (s.atRecord d).inPtr s := rfl

/-- What a drawn in_buffer changes: memory and the count of draws (R126). -/
theorem drawInBuffer_shape {q : ReqRef} (h : s.drawInBuffer q = .ok t) :
    t = { s with mem := t.mem, draws := t.draws } := by
  cases q with
  | atCommand d =>
    obtain ⟨hd, -⟩ := State.drawInto_ok _ _ _ _ h
    rw [hd]
  | transmitData d => cases h

theorem completeAtResponse_effect (hs : s.rx.state = .atResponse) (h : s.completeAtResponse = .ok t) :
    RxEffect s (t.setRxState .frameMark) := by
  unfold State.completeAtResponse at h
  split at h
  · cases h
  next q hq =>
    dsimp only at h
    split at h
    · cases q with
      | atCommand d =>
        have ht := drawInBuffer_shape h
        rw [ht] at h ⊢
        exact .drawn d _ _ _ hs hq h
      | transmitData d => cases h
    · cases h
      exact .atResponse q _ hs

theorem completeDelivery_effect (hs : s.rx.state = .dataRequested) (h : s.completeDelivery = .ok t) :
    RxEffect s (t.setRxState .frameMark) := by
  unfold State.completeDelivery at h
  split at h
  · cases h
  next r _ => cases h; exact .delivered r _ hs

theorem complete_effect (h : s.complete = .ok t) : RxEffect s (t.setRxState .frameMark) := by
  unfold State.complete at h
  split at h
  next hs => cases h; exact completeModemStatus_effect hs
  next hs => exact completeTransmitStatus_effect hs h
  next hs => exact completeAtResponse_effect hs h
  next hs => exact completeDelivery_effect hs h
  all_goals cases h; exact .registers _ s.out.discards rfl

theorem checksumByte_effect {v : Byte} (h : s.checksumByte v = .ok t) : RxEffect s t := by
  unfold State.checksumByte at h
  split at h
  · obtain ⟨u, hu, ht⟩ := (Res.andThen_eq_ok _ _ _).mp h
    cases ht
    exact complete_effect hu
  · cases h
    exact .registers _ _ rfl

theorem bodyValue_effect {v : Byte} (h : s.bodyValue v = .ok t) : RxEffect s t := by
  unfold State.bodyValue at h
  split at h
  · exact (bodyByte_case h).effect
  · exact checksumByte_effect h

theorem lengthLow_effect (v : Byte) : RxEffect s (s.lengthLow v) := by
  unfold State.lengthLow
  dsimp only
  split
  · exact .registers _ _ rfl
  · exact .registers _ s.out.discards rfl

theorem rxValue_effect {v : Byte} (h : s.rxValue v = .ok t) : RxEffect s t := by
  unfold State.rxValue at h
  split at h
  next => cases h; exact .registers _ s.out.discards rfl
  next => cases h; exact .registers _ s.out.discards rfl
  next => cases h; exact lengthLow_effect v
  next => exact (typeByte_case h).effect
  all_goals exact bodyValue_effect h

theorem resync_effect : RxEffect s.escapeDone s.resync := by
  unfold State.resync
  dsimp only
  split
  · exact .registers _ s.out.discards rfl
  · exact .registers _ s.out.discards rfl
  all_goals exact .registers _ (_ :: s.out.discards) rfl

/-- A PUSH that comes to its end does what a value can do once the escape flag is used up (R103 to R107). -/
theorem pushBody_effect {b : Byte} (h : s.pushBody b = .ok t) : RxEffect s.escapeDone t := by
  unfold State.pushBody at h
  split_ifs at h
  · cases h; exact .registers s.rx s.out.discards rfl
  · cases h; exact resync_effect
  · cases h; exact .registers s.escapeNext.rx s.out.discards rfl
  · exact rxValue_effect h

end Sys2Proof.Machine
end

section
/-! The frame of PUSH (R20, R21). -/

namespace Sys2Proof.Machine

variable {s t : State}

/-- `t` keeps every field of `s` that is not the Receiver's to change (R20, R21), and records no fault. -/
structure State.KeptByPush (s t : State) : Prop where
  tx : t.tx = s.tx
  task : t.task = s.task
  ie : t.ie = s.ie
  params : t.params = s.params
  inputs : t.inputs = s.inputs
  held : t.held = s.held
  pulled : t.out.pulled = s.out.pulled
  taskEvents : t.out.task = s.out.task
  fault : t.fault = s.fault
  seqId : t.corr.seqId = s.corr.seqId
  req : t.corr.req = s.corr.req
  sess : t.corr.sess = s.corr.sess

theorem RxEffect.kept (h : RxEffect s t) : s.KeptByPush t := by
  cases h <;> constructor <;> simp

theorem RxEffect.scratch_eq (h : RxEffect s t) (hs : s.rx.state ≠ .data) : t.rx.scratch = s.rx.scratch := by
  cases h with
  | registers x ds hx => exact hx
  | scratch j v hd hj => exact absurd hd hs
  | _ => simp

theorem RxEffect.assoc_eq (h : RxEffect s t) (hs : s.rx.state ≠ .modemStatus) : t.corr.assoc = s.corr.assoc := by
  cases h with
  | joined hm | left hm => exact absurd hm hs
  | _ => simp

theorem RxEffect.session_eq (h : RxEffect s t) (hm : s.rx.state ≠ .modemStatus) (hd : s.rx.state ≠ .dataRequested) :
    t.corr.sessPending = s.corr.sessPending ∧ t.corr.sessSuccess = s.corr.sessSuccess := by
  cases h with
  | joined hs | left hs => exact absurd hs hm
  | delivered r d hs => exact absurd hs hd
  | _ => simp

theorem RxEffect.recvs_eq (h : RxEffect s t) (hs : s.rx.state ≠ .dataRequested) : t.recs.recvs = s.recs.recvs := by
  cases h with
  | delivered r d hd => exact absurd hd hs
  | transmitStatus q v | atResponse q v => cases q <;> rfl
  | _ => rfl

theorem RxEffect.request_eq (h : RxEffect s t) (ht : s.rx.state ≠ .transmitStatus) (ha : s.rx.state ≠ .atResponse) :
    t.corr.expect = s.corr.expect ∧ t.recs.atCmds = s.recs.atCmds ∧ t.recs.txDatas = s.recs.txDatas := by
  cases h with
  | transmitStatus q v hs => exact absurd hs ht
  | atResponse q v hs => exact absurd hs ha
  | drawn d v m n hs => exact absurd hs ha
  | _ => exact ⟨rfl, rfl, rfl⟩

theorem RxEffect.draws_eq (h : RxEffect s t) (hs : s.rx.state ≠ .atResponse) : t.draws = s.draws := by
  cases h with
  | drawn d v m n hd => exact absurd hd hs
  | _ => simp

theorem RxEffect.mem_eq (h : RxEffect s t) (hd : s.rx.state ≠ .dataRequested) (ha : s.rx.state ≠ .atResponse) :
    t.mem = s.mem := by
  cases h with
  | session r h v hs => exact absurd hs hd
  | drawn d v m n hs => exact absurd hs ha
  | _ => simp

/-- In DataRequested a value writes memory at the payload's own address only (R120). -/
theorem RxEffect.read_of_dataRequested (h : RxEffect s t) {r : Ref} (hs : s.rx.state = .dataRequested)
    (ht : s.rx.type = 0x90) (hr : s.corr.sess = some r) {a : Nat}
    (ha : a ≠ (s.recvRecord r).bufPtr + (s.rx.count.toNat - 11)) :
    Memory.read t.mem a = Memory.read s.mem a := by
  cases h with
  | session r' h v _ hh hr' =>
    cases hr.symm.trans hr'
    rw [ht] at hh
    cases hh
    exact Memory.read_write_other _ _ _ _ ha
  | drawn d v m n hs' => cases hs.symm.trans hs'
  | _ => simp

/-- Only `result` of the request's own record changes (R36). -/
theorem atRecord_setRequestResult (d : Ref) (v : Byte) (hw : tableWf AtRecord.zero s.recs.atCmds = true) :
    (s.setRequestResult (.atCommand d) v).atRecord d = { s.atRecord d with result := v } :=
  tableGet_set_same AtRecord.zero _ 0 _ _ hw

/-- In AtResponse a value writes memory inside the in_buffer only (R126). -/
theorem RxEffect.read_of_atResponse (h : RxEffect s t) {d : Ref} (hs : s.rx.state = .atResponse)
    (hq : s.corr.req = some (.atCommand d)) (hw : tableWf AtRecord.zero s.recs.atCmds = true) {a : Nat}
    (ha : a < (s.atRecord d).inPtr ∨ (s.atRecord d).inPtr + (s.atRecord d).inCap.toNat ≤ a) :
    Memory.read t.mem a = Memory.read s.mem a := by
  cases h with
  | session r h v hs' => cases hs.symm.trans hs'
  | drawn d' v m n _ hq' hm =>
    cases hq.symm.trans hq'
    have hrec : (s.setRequestResult (.atCommand d) v).clearExpect.atRecord d = { s.atRecord d with result := v } :=
      atRecord_setRequestResult d v hw
    rw [drawInBuffer_atCommand, hrec] at hm
    exact (State.drawInto_ok _ _ _ _ hm).2 a ha
  | _ => simp

/-- Settles O39, from what each value may change in each Receiver state. -/
theorem pushFrame : Obligations.PushFrame := by
  intro s t b hr h
  rw [execPush_of_ready s b hr] at h
  obtain hok | ⟨f, -, rfl⟩ := (settle_eq_next s t _).mp h
  · have he : RxEffect s.escapeDone t := pushBody_effect hok
    have hk : s.KeptByPush t := { he.kept with }
    exact ⟨hk.tx, hk.task, hk.ie, hk.params, hk.inputs, hk.held, hk.pulled, hk.taskEvents, hk.seqId, hk.req, hk.sess,
      fun hf => absurd (hk.fault.trans hr.1) hf, he.scratch_eq, he.assoc_eq, he.session_eq, he.recvs_eq,
      he.request_eq, he.draws_eq, fun hd ha a => congrArg (Memory.read · a) (he.mem_eq hd ha),
      fun r hs ht hr a => he.read_of_dataRequested hs ht hr,
      fun d hs hq hw a => he.read_of_atResponse hs hq hw⟩
  · simp [State.raise]

end Sys2Proof.Machine
end

section
/-! The parts of the invariant, update by update. -/

namespace Sys2Proof.Machine

variable {s t : State}

/-! The Receiver. -/

/-- Outside the body states the invariant asks nothing of the Receiver. -/
theorem RxInv.of_not_isBody (h : ¬ s.rx.state.IsBody) : RxInv s := by
  cases hs : s.rx.state <;> simp only [hs, RxState.IsBody, not_true] at h
  all_goals constructor <;> simp [hs, RxState.typeByte, RxState.IsBody]

/-- A frame just accepted: its header fits, and no byte of it has been counted. -/
theorem RxInv.of_accepted {b : Byte} {n : Nat} (hb : s.rx.state.typeByte = some b) (ht : s.rx.type = b)
    (hn : headerSize b = some n) (hl : n ≤ s.rx.len.toNat) (hc : s.rx.count = 0)
    (limit : s.rx.state = .data ∨ s.rx.state = .dataRequested →
      s.rx.full = s.rx.len - 11 ∧ s.rx.limit.toNat ≤ s.rx.full.toNat)
    (data : s.rx.state = .data → s.rx.limit.toNat ≤ s.params.scratchCapacity.toNat ∧ s.corr.sessPending = false)
    (dataRequested : s.rx.state = .dataRequested → s.corr.sessPending = true)
    (transmitStatus : s.rx.state = .transmitStatus → s.corr.expect = .transmitStatus)
    (atResponse : s.rx.state = .atResponse → s.corr.expect = .atResponse) : RxInv s where
  type b' hb' := by cases hb.symm.trans hb'; exact ht
  header b' n' hb' hn' := by cases hb.symm.trans hb'; cases hn.symm.trans hn'; exact hl
  count _ := by simp [hc]
  limit := limit
  data := data
  dataRequested := dataRequested
  transmitStatus := transmitStatus
  atResponse := atResponse

theorem TypeCase.rxInv (h : TypeCase s t) : RxInv t := by
  cases h with
  | discard v r => exact .of_not_isBody id
  | modemStatus hl => exact .of_accepted rfl rfl rfl hl rfl nofun nofun nofun nofun nofun
  | transmitStatus hl he => exact .of_accepted rfl rfl rfl hl rfl nofun nofun nofun (fun _ => he) nofun
  | atResponse hl he => exact .of_accepted rfl rfl rfl hl rfl nofun nofun nofun nofun (fun _ => he)
  | toSession cap hl hp =>
    exact .of_accepted rfl rfl rfl hl rfl (fun _ => ⟨rfl, (minLen_le _ _).1⟩) nofun (fun _ => hp) nofun nofun
  | toScratch hl hp =>
    exact .of_accepted rfl rfl rfl hl rfl (fun _ => ⟨rfl, (minLen_le _ _).1⟩) (fun _ => ⟨(minLen_le _ _).2, hp⟩)
      nofun nofun nofun

theorem RxInv.countByte (h : RxInv s) (hlt : s.rx.count.toNat < s.rx.len.toNat) (v : Byte) :
    RxInv (s.countByte v) :=
  { h with count := fun _ => by simp only [State.countByte_rx]; bv_omega }

theorem RxInv.setMem (h : RxInv s) (m : List Host.Cell) : RxInv { s with mem := m } := { h with }

theorem BodyCase.rxInv {v : Byte} (hi : RxInv s) (hlt : s.rx.count.toNat < s.rx.len.toNat) (h : BodyCase s v t) :
    RxInv t := by
  cases h with
  | header => exact RxInv.countByte (s := s.storeHeader v) { hi with } hlt v
  | ignored => exact hi.countByte hlt v
  | scratch j => exact RxInv.countByte (s := s.storeScratch j v) { hi with } hlt v
  | session r h => exact (hi.setMem (Memory.write s.mem _ v)).countByte hlt v

theorem checksumByte_rxInv {v : Byte} (h : s.checksumByte v = .ok t) : RxInv t := by
  unfold State.checksumByte at h
  split at h
  · obtain ⟨u, -, ht⟩ := (Res.andThen_eq_ok _ _ _).mp h
    cases ht
    exact .of_not_isBody id
  · cases h
    exact .of_not_isBody id

theorem bodyValue_rxInv {v : Byte} (hi : RxInv s) (h : s.bodyValue v = .ok t) : RxInv t := by
  unfold State.bodyValue at h
  split at h
  next hlt => exact (bodyByte_case h).rxInv hi hlt
  next => exact checksumByte_rxInv h

theorem lengthLow_rxInv (v : Byte) : RxInv (s.lengthLow v) := by
  unfold State.lengthLow
  dsimp only
  split <;> exact .of_not_isBody id

theorem rxValue_rxInv {v : Byte} (hi : RxInv s) (h : s.rxValue v = .ok t) : RxInv t := by
  unfold State.rxValue at h
  split at h
  next => cases h; exact hi
  next => cases h; exact .of_not_isBody id
  next => cases h; exact lengthLow_rxInv v
  next => exact (typeByte_case h).rxInv
  all_goals exact bodyValue_rxInv hi h

theorem pushBody_rxInv {b : Byte} (hi : RxInv s) (h : s.pushBody b = .ok t) : RxInv t := by
  unfold State.pushBody at h
  split_ifs at h
  · cases h; exact hi
  · cases h; exact .of_not_isBody (by simp [RxState.IsBody])
  · cases h; exact { hi with }
  · exact rxValue_rxInv (s := s.escapeDone) { hi with } h

/-- A frame in Data is re-pointed at the session's buffer; a frame in another state stays as it is (R147). -/
theorem RxInv.startReceive (h : RxInv s) (r : Ref) : RxInv (s.startReceive r) := by
  unfold State.startReceive State.repoint
  split
  next hd =>
    exact {
      type := fun b hb => h.type b (by rw [hd]; exact hb)
      header := fun b n hb hn => h.header b n (by rw [hd]; exact hb) hn
      count := fun _ => h.count (by rw [hd]; trivial)
      limit := fun _ => ⟨(h.limit (.inl hd)).1, (minLen_le _ _).1⟩
      data := nofun, dataRequested := fun _ => rfl, transmitStatus := nofun, atResponse := nofun }
  next hd =>
    exact { h with data := fun hs => absurd hs hd, dataRequested := fun _ => rfl }

/-- No response is being received while none is expected, so a new expectation is no conflict (R114, R115). -/
theorem RxInv.startRequest (h : RxInv s) (he : s.corr.expect = .none) (x : TxRegs) (q : ReqRef) (e : Expect) :
    RxInv (({ s.issueId with tx := x } : State).startRequest q e) :=
  { h with
    transmitStatus := fun hs => nomatch he.symm.trans (h.transmitStatus hs)
    atResponse := fun hs => nomatch he.symm.trans (h.atResponse hs) }

/-! The Transmitter, set up by a SUBMIT. -/

theorem TxInv.startAtCommand (h : TxInv s.tx) (d : AtRecord) (q : ReqRef) (e : Expect)
    (fits : frameLength 4 d.outLen ≤ 0xFFFF) : TxInv ((s.issueId.loadAtCommand d).startRequest q e).tx where
  header _ := .inl ⟨by simp [atHeader], rfl⟩
  length _ := by simp [frameLength] at fits ⊢; omega
  headerIndex := nofun
  dataIndex := nofun
  escape := h.escape

theorem TxInv.startTransmitRequest (h : TxInv s.tx) (d : TxRecord) (q : ReqRef) (e : Expect)
    (fits : frameLength 14 d.dataLen ≤ 0xFFFF) :
    TxInv ((s.issueId.loadTransmitRequest d).startRequest q e).tx where
  header _ := .inr ⟨by simp [transmitHeader], rfl⟩
  length _ := by simp [frameLength] at fits ⊢; omega
  headerIndex := nofun
  dataIndex := nofun
  escape := h.escape

/-! The task. -/

theorem TaskInv.setTx (h : TaskInv s) {x : TxRegs} (hx : s.tx.state = .idle → x.state = .idle) :
    TaskInv { s with tx := x } :=
  { h with
    noOp := fun hop =>
      have ⟨hw, hi, hrest⟩ := h.noOp hop
      ⟨hw, hx hi, hrest⟩
    recvCopy := fun hop =>
      have ⟨hw, hi, hrest⟩ := h.recvCopy hop
      ⟨hw, hx hi, hrest⟩
    recvWait := fun hop =>
      have ⟨hw, hi, hrest⟩ := h.recvWait hop
      ⟨hw, hx hi, hrest⟩ }

theorem TaskInv.setRequestResult (h : TaskInv s) (q : ReqRef) (v : Byte) : TaskInv (s.setRequestResult q v) := by
  cases q <;> exact { h with }

theorem TaskInv.clearExpect (h : TaskInv s) : TaskInv s.clearExpect :=
  { h with
    noOp := fun hop =>
      have ⟨hw, hi, _, hrest⟩ := h.noOp hop
      ⟨hw, hi, rfl, hrest⟩
    recvCopy := fun hop =>
      have ⟨hw, hi, _, hrest⟩ := h.recvCopy hop
      ⟨hw, hi, rfl, hrest⟩
    recvWait := fun hop =>
      have ⟨hw, hi, _, hrest⟩ := h.recvWait hop
      ⟨hw, hi, rfl, hrest⟩
    expectAt := nofun
    expectTx := nofun }

/-- A session that ends, delivered or aborted (R124, R127). -/
theorem TaskInv.endSession (h : TaskInv s) (success : Bool) (a : Assoc) :
    TaskInv { s with corr := { s.corr with sessPending := false, sessSuccess := success, assoc := a } } :=
  { h with
    noOp := fun hop =>
      have ⟨hw, hi, he, hq, hs, _⟩ := h.noOp hop
      ⟨hw, hi, he, hq, hs, rfl⟩
    submitWait := fun hop =>
      have ⟨hw, hq, hs, _, hid⟩ := h.submitWait hop
      ⟨hw, hq, hs, rfl, hid⟩
    associated := nofun }

theorem RxEffect.taskInv (hi : TaskInv s) (h : RxEffect s t) : TaskInv t := by
  cases h with
  | registers | scratch | session => exact { hi with }
  | joined => exact { hi with associated := fun _ => rfl }
  | left => exact { hi.endSession s.corr.sessSuccess .notAssociated with }
  | transmitStatus q v => exact { (hi.setRequestResult q v).clearExpect with }
  | atResponse q v => exact { hi.setRequestResult q v with }
  | drawn d v => exact { (hi.setRequestResult (.atCommand d) v).clearExpect with }
  | delivered r d => exact { hi.endSession true s.corr.assoc with }

/-- Phase A of a SUBMIT: a command is active, its request outstanding, and its id is not 0 (R132, R134). -/
theorem TaskInv.startRequest (h : TaskInv s) (hop : s.task.op = .noOp) (x : TxRegs) (q : ReqRef) (e : Expect)
    (hat : e = .atResponse → ∃ d, q = .atCommand d) (htx : e = .transmitStatus → ∃ d, q = .transmitData d) :
    TaskInv (({ s.issueId with tx := x } : State).startRequest q e) := by
  obtain ⟨-, -, -, -, hs, hp⟩ := h.noOp hop
  exact { h with
    noOp := nofun, recvCopy := nofun, recvWait := nofun
    submitWait := fun _ => ⟨rfl, nofun, hs, hp, (nextId_ne _).1⟩
    expectAt := fun he => (hat he).imp fun d hd => by rw [← hd]; rfl
    expectTx := fun he => (htx he).imp fun d hd => by rw [← hd]; rfl }

/-- The bytes to copy fit the 16-bit counters (R148). -/
theorem State.copyLength_lt (s : State) (cap : U16) : s.copyLength cap < 2 ^ 16 := by
  unfold State.copyLength
  split <;> omega

theorem State.copyFromScratch_le (s : State) (cap : U16) : s.copyFromScratch cap ≤ s.copyLength cap := by
  unfold State.copyFromScratch
  split <;> omega

theorem TaskInv.startReceive (h : TaskInv s) (hop : s.task.op = .noOp) (ha : s.corr.assoc = .associated) (r : Ref) :
    TaskInv (s.startReceive r) := by
  obtain ⟨hw, hi, he, hq, -, -⟩ := h.noOp hop
  have hk := s.copyLength_lt (s.recvRecord r).cap
  have hc := s.copyFromScratch_le (s.recvRecord r).cap
  unfold State.startReceive State.openSession
  generalize s.copyLength (s.recvRecord r).cap = k at hk hc
  generalize s.copyFromScratch (s.recvRecord r).cap = c at hc
  by_cases hpos : 0 < k
  · simp only [hpos, if_true]
    exact { h with
      noOp := nofun, submitWait := nofun, recvWait := nofun, associated := fun _ => ha
      recvCopy := fun _ => ⟨hw, hi, he, hq, nofun, by simp; omega, by simp; omega⟩ }
  · simp only [hpos, if_false]
    exact { h with
      noOp := nofun, submitWait := nofun, recvCopy := nofun, associated := fun _ => ha
      recvWait := fun _ => ⟨rfl, hi, he, hq, nofun⟩ }

/-- Phase W of SUBMIT: no command is active, and nothing is outstanding (R138). -/
theorem TaskInv.submitReturns (h : TaskInv s) (hop : s.task.op = .submitWait) (hi : s.tx.state = .idle)
    (he : s.corr.expect = .none) :
    TaskInv { s with task := { s.task with wait := .none, op := .noOp }, corr := { s.corr with req := none } } := by
  obtain ⟨-, -, hs, hp, -⟩ := h.submitWait hop
  exact { h with
    noOp := fun _ => ⟨rfl, hi, he, rfl, hs, hp⟩
    submitWait := nofun, recvCopy := nofun, recvWait := nofun
    expectAt := fun hat => nomatch he.symm.trans hat
    expectTx := fun htx => nomatch he.symm.trans htx }

/-- Phase B of RECEIVE: the copy goes on, or the task waits for the session (R144, R150). -/
theorem TaskInv.afterCopy (h : TaskInv s) (hop : s.task.op = .recvCopy) :
    TaskInv { s with task := s.task.afterCopy } := by
  obtain ⟨hw, hi, he, hq, hs, hlt, hle⟩ := h.recvCopy hop
  unfold TaskRegs.afterCopy
  split
  next =>
    exact { h with
      noOp := nofun, submitWait := nofun, recvCopy := nofun
      recvWait := fun _ => ⟨rfl, hi, he, hq, hs⟩ }
  next hne =>
    exact { h with recvCopy := fun _ => ⟨hw, hi, he, hq, hs, succ_toNat_lt rfl hlt hne, hle⟩ }

/-- Phase W of RECEIVE: no command is active, and there is no session (R152). -/
theorem TaskInv.receiveReturns (h : TaskInv s) (hop : s.task.op = .recvWait) (hp : s.corr.sessPending = false) :
    TaskInv { s with task := { s.task with wait := .none, op := .noOp }, corr := { s.corr with sess := none } } := by
  obtain ⟨-, hi, he, hq, -⟩ := h.recvWait hop
  exact { h with
    noOp := fun _ => ⟨rfl, hi, he, hq, rfl, hp⟩
    submitWait := nofun, recvCopy := nofun, recvWait := nofun }

/-! The storage. -/

theorem StoreInv.writeMem (h : StoreInv s) {a : Nat} (ha : addrValid s.params a = true) (v : Byte) :
    StoreInv { s with mem := Memory.write s.mem a v } :=
  { h with
    mem := Memory.write_wf s.mem a v h.mem
    memValid := fun c hc => by
      obtain hca | hc := mem_tableSet unlistedByte s.mem a v c hc
      · rw [hca]; exact ha
      · exact h.memValid c hc }

theorem StoreInv.drawInto {n a : Nat} (h : StoreInv s) (ht : State.drawInto n a s = .ok t) : StoreInv t := by
  induction n generalizing a s with
  | zero => cases ht; exact h
  | succ n ih =>
    unfold State.drawInto at ht
    split at ht
    · cases ht
    next hw =>
      obtain ⟨hv, rfl⟩ := (State.memWrite_eq_some _ _ _ _).mp hw
      refine ih ?_ ht
      exact { h.writeMem hv (Config.freeByte s.draws) with }

theorem StoreInv.storeScratch (h : StoreInv s) {j : Nat} (hj : j < s.params.scratchCapacity.toNat) (v : Byte) :
    StoreInv (s.storeScratch j v) :=
  { h with
    scratch := tableSet_wf unlistedByte s.rx.scratch j v h.scratch
    scratchInside := fun c hc => by
      obtain hcj | hc := mem_tableSet unlistedByte s.rx.scratch j v c hc
      · rw [hcj]; exact hj
      · exact h.scratchInside c hc }

/-- The Receiver's registers other than scratch are no storage. -/
theorem StoreInv.setRx (h : StoreInv s) {x : RxRegs} (hx : x.scratch = s.rx.scratch) :
    StoreInv { s with rx := x } :=
  { h with scratch := by rw [hx]; exact h.scratch, scratchInside := by rw [hx]; exact h.scratchInside }

theorem StoreInv.setAtRecord (h : StoreInv s) (d : Ref) (v : AtRecord) : StoreInv (s.setAtRecord d v) :=
  { h with atCmds := tableSet_wf _ _ _ _ h.atCmds }

theorem StoreInv.setTxRecord (h : StoreInv s) (d : Ref) (v : TxRecord) : StoreInv (s.setTxRecord d v) :=
  { h with txDatas := tableSet_wf _ _ _ _ h.txDatas }

theorem StoreInv.setRecvRecord (h : StoreInv s) (d : Ref) (v : RecvRecord) : StoreInv (s.setRecvRecord d v) :=
  { h with recvs := tableSet_wf _ _ _ _ h.recvs }

theorem StoreInv.setRequestResult (h : StoreInv s) (q : ReqRef) (v : Byte) : StoreInv (s.setRequestResult q v) := by
  cases q with
  | atCommand d => exact h.setAtRecord d _
  | transmitData d => exact h.setTxRecord d _

theorem repoint_rx_scratch (cap : U16) : (s.repoint cap).rx.scratch = s.rx.scratch := by
  unfold State.repoint; split <;> rfl

theorem StoreInv.startReceive (h : StoreInv s) (r : Ref) : StoreInv (s.startReceive r) :=
  { h.setRx (repoint_rx_scratch (s.recvRecord r).cap) with }

theorem RxEffect.storeInv (hi : StoreInv s) (hrx : RxInv s) (h : RxEffect s t) : StoreInv t := by
  cases h with
  | registers x ds hx => exact { hi.setRx hx with }
  | scratch j v hs hj => exact { hi.storeScratch (hj.trans_le (hrx.data hs).1) v with }
  | session r h v hs hh hr valid => exact { hi.writeMem valid v with }
  | joined | left => exact { hi with }
  | transmitStatus q v | atResponse q v => exact { hi.setRequestResult q v with }
  | drawn d v m n hs hq hm =>
    have hs : StoreInv (s.setRequestResult (.atCommand d) v).clearExpect :=
      { hi.setRequestResult (.atCommand d) v with }
    exact { hs.drawInto hm with }
  | delivered r d => exact { hi.setRecvRecord r d with }

end Sys2Proof.Machine
end

section
/-! Every move keeps the invariant and `ie`, and only a SUBMIT starts a frame: the statements about all steps. -/

namespace Sys2Proof.Machine

variable {s t : State}

theorem PullCase.inv (hi : Inv s) (h : PullCase s t) : Inv t := by
  have htx : TxInv t.tx := h.txInv hi.tx
  obtain ⟨x, o, hx, rfl⟩ := h.pullsTo
  exact ⟨hi.ie, htx, { hi.rx with }, { hi.task.setTx hx.idle with }, { hi.store with }⟩

theorem pushBody_inv {b : Byte} (hi : Inv s) (h : s.pushBody b = .ok t) : Inv t := by
  have he : RxEffect s.escapeDone t := pushBody_effect h
  have hrx : RxInv s.escapeDone := { hi.rx with }
  have htask : TaskInv s.escapeDone := { hi.task with }
  have hstore : StoreInv s.escapeDone := { hi.store with }
  exact ⟨he.kept.ie.trans hi.ie, he.kept.tx ▸ hi.tx, pushBody_rxInv hi.rx h, he.taskInv htask,
    he.storeInv hstore hrx⟩

/-- Every move keeps the invariant. -/
theorem Move.inv (hi : Inv s) (h : Move s t) : Inv t := by
  have ⟨hie, htx, hrx, htask, hstore⟩ := hi
  cases h with
  | stay => exact hi
  | hold e | raise f | answer e => exact ⟨hie, htx, { hrx with }, { htask with }, { hstore with }⟩
  | push b _ ok => exact pushBody_inv hi ok
  | pull _ ok => exact (pullBody_case ok).inv hi
  | submitAt d noOp idle fits =>
    obtain ⟨-, -, hexpect, -⟩ := htask.noOp noOp
    exact ⟨hie, htx.startAtCommand _ _ _ fits, hrx.startRequest hexpect _ _ _,
      htask.startRequest noOp _ _ _ (fun _ => ⟨d, rfl⟩) nofun, { hstore with }⟩
  | submitTx d noOp idle fits =>
    obtain ⟨-, -, hexpect, -⟩ := htask.noOp noOp
    exact ⟨hie, htx.startTransmitRequest _ _ _ fits, hrx.startRequest hexpect _ _ _,
      htask.startRequest noOp _ _ _ nofun (fun _ => ⟨d, rfl⟩), { hstore with }⟩
  | receive r noOp associated =>
    exact ⟨hie, htx, hrx.startReceive r, htask.startReceive noOp associated r, hstore.startReceive r⟩
  | submitReturns q op idle expect =>
    exact ⟨hie, htx, { hrx with }, { htask.submitReturns op idle expect with }, { hstore with }⟩
  | copy r op valid =>
    exact ⟨hie, htx, { hrx with }, { htask.afterCopy op with }, { hstore.writeMem valid s.copyByte with }⟩
  | receiveReturns op clear =>
    exact ⟨hie, htx, { hrx with }, { htask.receiveReturns op clear with }, { hstore with }⟩
  | callerByte a v valid => exact ⟨hie, htx, { hrx with }, { htask with }, hstore.writeMem valid v⟩
  | callerAt d v => exact ⟨hie, htx, { hrx with }, { htask with }, hstore.setAtRecord d v⟩
  | callerTx d v => exact ⟨hie, htx, { hrx with }, { htask with }, hstore.setTxRecord d v⟩
  | callerRecv d v => exact ⟨hie, htx, { hrx with }, { htask with }, hstore.setRecvRecord d v⟩

/-- The invariant says nothing of what the transport holds or the environment is to do. -/
theorem Inv.setQueues (hi : Inv s) (held : List ByteEvent) (inputs : List Input) :
    Inv { s with held := held, inputs := inputs } :=
  ⟨hi.ie, hi.tx, { hi.rx with }, { hi.task with }, { hi.store with }⟩

/-- Settles O59: every step makes a move, and every move keeps the invariant. -/
theorem stepKeepsInv : Obligations.StepKeepsInv := by
  intro s t hi h
  obtain ⟨held, inputs, hm⟩ := step_move h
  exact hm.inv (hi.setQueues held inputs)

theorem Move.ie_eq (h : Move s t) : t.ie = s.ie := by
  cases h with
  | push b _ ok => exact (pushBody_effect ok).kept.ie
  | pull _ ok =>
    obtain ⟨x, o, -, rfl⟩ := (pullBody_case ok).pullsTo
    rfl
  | _ => rfl

/-- Settles O57: every step makes a move, and no move changes `ie`. -/
theorem stepsRestoreInterruptEnable : Obligations.StepsRestoreInterruptEnable := by
  intro s t h
  obtain ⟨held, inputs, hm⟩ := step_move h
  exact hm.ie_eq

/-- A move starts a frame, which only phase A of a SUBMIT does, or it leaves an idle Transmitter idle and the
sequence id as it is (R35, R100). -/
theorem Move.startsFrame_or_keeps (h : Move s t) :
    (s.task.op = .noOp ∧ s.tx.state = .idle ∧ t.tx.state = .frameMark ∧ t.task.op = .submitWait ∧
      t.corr.seqId = nextId s.corr.seqId) ∨
    ((s.tx.state = .idle → t.tx.state = .idle) ∧ t.corr.seqId = s.corr.seqId) := by
  cases h with
  | submitAt d noOp idle | submitTx d noOp idle => exact .inl ⟨noOp, idle, rfl, rfl, rfl⟩
  | push b _ ok =>
    have hk := (pushBody_effect ok).kept
    exact .inr ⟨fun hs => hk.tx ▸ hs, hk.seqId⟩
  | pull _ ok =>
    obtain ⟨x, o, hx, rfl⟩ := (pullBody_case ok).pullsTo
    exact .inr ⟨hx.idle, rfl⟩
  | _ => exact .inr ⟨id, rfl⟩

/-- Settles O49: of all moves only a SUBMIT takes the Transmitter out of Idle or changes the sequence id. -/
theorem onlySubmitStartsAFrame : Obligations.OnlySubmitStartsAFrame := by
  intro s t h hchange
  obtain ⟨held, inputs, hm⟩ := step_move h
  obtain hstart | ⟨hidle, hid⟩ := hm.startsFrame_or_keeps
  · exact hstart
  · obtain ⟨hs, ht⟩ | hne := hchange
    · exact absurd (hidle hs) ht
    · exact absurd hid hne

end Sys2Proof.Machine
end

section
/-! What the context of a PULL does not reach: two blocks that agree in the Transmitter and what it reads. -/

namespace Sys2Proof.Machine

variable {s u t : State}

/-- Two blocks agree in what PULL reads and writes (R102): the Transmitter, memory, the parameters, the results so
far and the fault. -/
structure State.PullAgrees (s u : State) : Prop where
  tx : u.tx = s.tx
  mem : u.mem = s.mem
  params : u.params = s.params
  pulled : u.out.pulled = s.out.pulled
  fault : u.fault = s.fault

/-- Two ends of a step's pseudocode agree: both in states that agree, or in the same fault or stop. -/
inductive Res.PullAgrees : Res → Res → Prop
  | ok {s u : State} (h : s.PullAgrees u) : PullAgrees (.ok s) (.ok u)
  | raise (f : FaultCode) : PullAgrees (.raise f) (.raise f)
  | stop (r : Fault) : PullAgrees (.stop r) (.stop r)

theorem State.PullAgrees.setTx (h : s.PullAgrees u) (x : TxRegs) :
    State.PullAgrees { s with tx := x } { u with tx := x } := { h with tx := rfl }

theorem State.PullAgrees.emit (h : s.PullAgrees u) (o : Option Byte) : (s.emit o).PullAgrees (u.emit o) :=
  { h with pulled := congrArg (o :: ·) h.pulled }

theorem State.PullAgrees.sendEscaped (h : s.PullAgrees u) (b : Byte) :
    (s.sendEscaped b).PullAgrees (u.sendEscaped b) := by
  unfold State.sendEscaped
  rw [h.tx]
  exact (h.setTx _).emit _

theorem State.PullAgrees.txEsc (h : s.PullAgrees u) (raw : Byte) : (s.txEsc raw).PullAgrees (u.txEsc raw) := by
  unfold State.txEsc
  split
  · exact h.sendEscaped _
  · exact h.emit _

theorem State.PullAgrees.memRead_eq (h : s.PullAgrees u) (a : Nat) : u.memRead a = s.memRead a := by
  unfold State.memRead
  rw [h.params, h.mem]

theorem State.PullAgrees.pullHeader (h : s.PullAgrees u) : s.pullHeader.PullAgrees u.pullHeader := by
  unfold State.pullHeader
  rw [h.tx]
  split
  · exact .stop _
  · exact .ok ((h.setTx _).txEsc _)

theorem State.PullAgrees.pullData (h : s.PullAgrees u) : s.pullData.PullAgrees u.pullData := by
  unfold State.pullData
  rw [h.memRead_eq, h.tx]
  split
  · exact .raise _
  · exact .ok ((h.setTx _).txEsc _)

/-- The body of PULL looks at nothing but what the two blocks agree in (R91 to R98, R102). -/
theorem State.PullAgrees.pullBody (h : s.PullAgrees u) : s.pullBody.PullAgrees u.pullBody := by
  unfold State.pullBody State.pullHeld State.pullFrameMark State.pullLength1 State.pullLength2 State.pullChecksum
  rw [h.tx]
  split
  · exact .ok ((h.setTx _).emit _)
  · split
    · exact .ok (h.emit _)
    · exact .ok ((h.setTx _).emit _)
    · exact .ok ((h.setTx _).txEsc _)
    · exact .ok ((h.setTx _).txEsc _)
    · exact h.pullHeader
    · exact h.pullData
    · exact .ok ((h.setTx _).txEsc _)

/-- Steps settled from states that agree, at ends that agree, come to states that agree. -/
theorem State.PullAgrees.settle {r q : Res} (h : s.PullAgrees u) (hr : r.PullAgrees q)
    (ht : Machine.settle s r = .next t) : ∃ v, Machine.settle u q = .next v ∧ t.PullAgrees v := by
  cases hr with
  | ok h' => cases ht; exact ⟨_, rfl, h'⟩
  | raise f => cases ht; exact ⟨_, rfl, { h with fault := rfl }⟩
  | stop r => cases ht

/-- Settles O19: a PULL from two states that agree in what it reads comes to states that agree in it. -/
theorem pullDependsOnTransmitterAndMemory : Obligations.PullDependsOnTransmitterAndMemory := by
  intro s u t hs hu htx hmem hparams hpulled ht
  have h : s.PullAgrees u := ⟨htx, hmem, hparams, hpulled, hu.1.trans hs.1.symm⟩
  rw [execPull_of_ready s hs] at ht
  obtain ⟨v, hv, hagree⟩ := h.settle h.pullBody ht
  exact ⟨v, (execPull_of_ready u hu).trans hv, hagree.tx, hagree.pulled, hagree.fault⟩

end Sys2Proof.Machine
end

section
/-! The drawn in_buffer, and the completion of an AT response. -/

namespace Sys2Proof.Machine

variable {s : State}

/-- One byte drawn into memory (R126). -/
def State.drawByte (s : State) (a : Nat) : State :=
  { s with mem := Memory.write s.mem a (Config.freeByte s.draws), draws := s.draws + 1 }

/-- A drawn buffer whose first address is valid (R126). -/
theorem drawInto_succ_of_valid {a : Nat} (n : Nat) (h : addrValid s.params a = true) :
    State.drawInto (n + 1) a s = State.drawInto n (a + 1) (s.drawByte a) := by
  rw [State.drawInto, (State.memWrite_eq_some s _ a _).mpr ⟨h, rfl⟩]
  rfl

/-- A drawn buffer whose first address is not valid (R52). -/
theorem drawInto_succ_of_invalid {a : Nat} (n : Nat) (h : addrValid s.params a = false) :
    State.drawInto (n + 1) a s = .raise (.mem a) := by
  rw [State.drawInto, (State.memWrite_eq_none s a _).mpr h]

/-- A buffer of valid addresses is drawn to its end, each byte the next free one (R126). -/
theorem drawInto_of_valid (n a : Nat) (s : State) (hw : Memory.wf s.mem = true)
    (hv : ∀ i < n, addrValid s.params (a + i) = true) :
    ∃ m, State.drawInto n a s = .ok { s with mem := m, draws := s.draws + n } ∧
      ∀ i < n, Memory.read m (a + i) = Config.freeByte (s.draws + i) := by
  induction n generalizing a s with
  | zero => exact ⟨s.mem, rfl, nofun⟩
  | succ n ih =>
    have hfirst : addrValid s.params a = true := hv 0 n.succ_pos
    have hshift : ∀ x i : Nat, x + (i + 1) = x + 1 + i := by omega
    obtain ⟨m, hm, hread⟩ := ih (a + 1) (s.drawByte a) (Memory.write_wf _ _ _ hw) fun i hi =>
      hshift a i ▸ hv (i + 1) (Nat.succ_lt_succ hi)
    refine ⟨m, ?_, fun i hi => ?_⟩
    · rw [drawInto_succ_of_valid n hfirst, hm, Nat.add_comm n, ← Nat.add_assoc]
      rfl
    · cases i with
      | zero =>
        have hkept : Memory.read m a = Memory.read (s.drawByte a).mem a :=
          (State.drawInto_ok _ _ _ _ hm).2 a (.inl a.lt_succ_self)
        exact hkept.trans (Memory.read_write_same _ _ _ hw)
      | succ i =>
        rw [hshift a, hshift s.draws]
        exact hread i (Nat.lt_of_succ_lt_succ hi)

/-- A buffer with an address that is not valid raises `FLT_MEM`, at an address that is not valid and no further on
(R52, R126; log 15). -/
theorem drawInto_of_invalid (n a i : Nat) (s : State) (hi : i < n) (hv : addrValid s.params (a + i) = false) :
    ∃ c, a ≤ c ∧ c ≤ a + i ∧ addrValid s.params c = false ∧ State.drawInto n a s = .raise (.mem c) := by
  induction n generalizing a i s with
  | zero => omega
  | succ n ih =>
    cases ha : addrValid s.params a with
    | false => exact ⟨a, le_rfl, a.le_add_right i, ha, drawInto_succ_of_invalid n ha⟩
    | true =>
      cases i with
      | zero => exact absurd (ha.symm.trans hv) nofun
      | succ i =>
        have hshift : a + (i + 1) = a + 1 + i := by omega
        obtain ⟨c, hlo, hhi, hc, hraise⟩ :=
          ih (a + 1) i (s.drawByte a) (Nat.lt_of_succ_lt_succ hi) (hshift ▸ hv)
        exact ⟨c, by omega, by omega, hc, (drawInto_succ_of_valid n ha).trans hraise⟩

/-- The result written does not move the in_buffer to be drawn (R36, R126). -/
theorem drawInBuffer_setRequestResult (d : Ref) (v : Byte) (hw : tableWf AtRecord.zero s.recs.atCmds = true) :
    (s.setRequestResult (.atCommand d) v).clearExpect.drawInBuffer (.atCommand d) =
      State.drawInto (s.atRecord d).inCap.toNat (s.atRecord d).inPtr
        (s.setRequestResult (.atCommand d) v).clearExpect := by
  have hrec : (s.setRequestResult (.atCommand d) v).clearExpect.atRecord d = { s.atRecord d with result := v } :=
    atRecord_setRequestResult d v hw
  rw [drawInBuffer_atCommand, hrec]

/-- The checksum byte of an AT response completes it, once the escape flag is used up (R121, R123). -/
theorem execPush_of_atResponse {b v : Byte} (h : s.Receives b v) (hs : s.rx.state = .atResponse)
    (hcount : s.rx.count = s.rx.len) (hsum : s.rx.sum + v = 0xFF) :
    exec (.push b) s =
      settle s (s.escapeDone.completeAtResponse.andThen fun t => .ok (t.setRxState .frameMark)) := by
  have hbody : s.escapeDone.rx.state.IsBody := by simp [hs, RxState.IsBody]
  rw [execPush_of_receives s b v h, rxValue_of_body _ v hbody, bodyValue_of_valid s.escapeDone v hcount hsum,
    State.complete, State.escapeDone_rx, hs]

/-- Another id leaves the request outstanding (R126). -/
theorem completeAtResponse_of_ne {q : ReqRef} (hq : s.corr.req = some q) (hid : s.rx.hdr[0] ≠ s.corr.seqId) :
    s.completeAtResponse = .ok (s.setRequestResult q s.rx.hdr[3]) := by
  rw [State.completeAtResponse, hq]
  exact if_neg hid

/-- The matching id clears the request and draws its in_buffer (R126). -/
theorem completeAtResponse_of_eq {d : Ref} (hq : s.corr.req = some (.atCommand d))
    (hid : s.rx.hdr[0] = s.corr.seqId) (hw : tableWf AtRecord.zero s.recs.atCmds = true) :
    s.completeAtResponse = State.drawInto (s.atRecord d).inCap.toNat (s.atRecord d).inPtr
      (s.setRequestResult (.atCommand d) s.rx.hdr[3]).clearExpect := by
  rw [State.completeAtResponse, hq]
  exact (if_pos hid).trans (drawInBuffer_setRequestResult d _ hw)

/-- Settles O37: by the id, and for the matching one by the addresses of the drawn in_buffer. -/
theorem atResponseCompletion : Obligations.AtResponseCompletion := by
  refine ⟨fun s b v d h hs hcount hsum hq hid => ?_, fun s b v d h hs hcount hsum hq hid hmem hrecs hv => ?_,
    fun s b v d i h hs hcount hsum hq hid hrecs hi hv => ?_⟩
  · rw [execPush_of_atResponse h hs hcount hsum, completeAtResponse_of_ne (s := s.escapeDone) hq hid]
    rfl
  · obtain ⟨m, hm, hread⟩ := drawInto_of_valid (s.atRecord d).inCap.toNat (s.atRecord d).inPtr
      (s.escapeDone.setRequestResult (.atCommand d) s.rx.hdr[3]).clearExpect hmem hv
    refine ⟨m, ?_, hread, (State.drawInto_ok _ _ _ _ hm).2⟩
    rw [execPush_of_atResponse h hs hcount hsum,
      (completeAtResponse_of_eq (s := s.escapeDone) hq hid hrecs).trans hm]
    rfl
  · obtain ⟨c, hlo, hhi, hc, hraise⟩ := drawInto_of_invalid (s.atRecord d).inCap.toNat (s.atRecord d).inPtr i
      (s.escapeDone.setRequestResult (.atCommand d) s.rx.hdr[3]).clearExpect hi hv
    refine ⟨c, hlo, hhi, hc, ?_⟩
    rw [execPush_of_atResponse h hs hcount hsum,
      (completeAtResponse_of_eq (s := s.escapeDone) hq hid hrecs).trans hraise]
    rfl

end Sys2Proof.Machine
end

section
/-! What a step fetches. -/

namespace Sys2Proof.Machine

variable {s : State}

/-- With no held event first, the environment's next move is fetched, taken from its list (R62). -/
theorem fetch_of_takes {i : Input} {rest : List Input} (h : s.Takes i rest) :
    s.fetch = State.runInput { s with inputs := rest } i := by
  obtain ⟨hfault, hheld, hinputs⟩ := h
  have hnext : s.nextInput = State.runInput { s with inputs := rest } i := by rw [State.nextInput, hinputs]
  rw [← hnext, State.fetch, hfault]
  obtain hheld | hie := hheld
  · rw [hheld]
    cases s.ie <;> rfl
  · rw [hie]

/-- Settles O4: the move fetched is the operation, decoded. -/
theorem stepRunsTheOperation : Obligations.StepRunsTheOperation := by
  intro s bytes rest i h hi
  rw [step, fetch_of_takes h, State.runInput, hi]

end Sys2Proof.Machine
end

section
/-! A payload byte for an address that is not valid. -/

namespace Sys2Proof.Machine

variable {s : State}

/-- A payload byte of a delivered frame for an address that is not valid (R52, R120). -/
theorem payloadToSession_of_invalid {v : Byte} {j : Nat} {r : Ref} (hj : j < s.rx.limit.toNat)
    (hr : s.corr.sess = some r) (hv : addrValid s.params ((s.recvRecord r).bufPtr + j) = false) :
    s.payloadToSession j v = .raise (.mem ((s.recvRecord r).bufPtr + j)) := by
  rw [State.payloadToSession, if_pos hj, hr]
  dsimp only
  rw [(State.memWrite_eq_none s _ v).mpr hv]

/-- A body byte past the header of a frame in DataRequested is delivered, then counted (R118, R120). -/
theorem bodyByte_of_dataRequested {v : Byte} {h : Nat} (hs : s.rx.state = .dataRequested)
    (hh : headerSize s.rx.type = some h) (hc : h ≤ s.rx.count.toNat) :
    s.bodyByte v = (s.payloadToSession (s.rx.count.toNat - h) v).andThen fun t => .ok (t.countByte v) := by
  rw [State.bodyByte, hh]
  refine (if_neg (not_lt.mpr hc)).trans ?_
  rw [State.payloadByte, hs]

/-- Settles O33: the store of the payload byte raises, so the whole PUSH only records the fault. -/
theorem pushOutsideMemoryFaults : Obligations.PushOutsideMemoryFaults := by
  intro s b v r a h hs htype hlen hcount hlimit hr ha hv
  subst ha
  have hbody : s.escapeDone.rx.state.IsBody := by simp [hs, RxState.IsBody]
  have hstore : s.escapeDone.payloadToSession (s.rx.count.toNat - 11) v = _ :=
    payloadToSession_of_invalid (s := s.escapeDone) hlimit hr hv
  have hbyte := bodyByte_of_dataRequested (s := s.escapeDone) (v := v) hs (congrArg headerSize htype) hcount
  rw [execPush_of_receives s b v h, rxValue_of_body _ v hbody, bodyValue_of_lt s.escapeDone v hlen, hbyte,
    State.escapeDone_rx, hstore]
  rfl

end Sys2Proof.Machine
end

section
/-! The codec: each row of a format and the bytes that stand for it (R72, R84, R85, R87, R124). -/

namespace Sys2Proof

/-! The operands (log 6). -/

theorem append_refBytes (d : Ref) : d.extractLsb' 8 8 ++ d.extractLsb' 0 8 = d := by
  rw [BitVec.extractLsb'_append_extractLsb'_eq_extractLsb' (by omega)]
  simp

theorem refBytes_append (h l : Byte) : refBytes (h ++ l) = [h, l] := by
  rw [refBytes, BitVec.extractLsb'_append_eq_left, BitVec.extractLsb'_append_eq_right]

/-- A reference is read back from its two bytes, whatever follows. -/
theorem withRef_refBytes (f : Ref → Instr) (d : Ref) (rest : List Byte) :
    withRef f (refBytes d ++ rest) = .ok (f d, rest) :=
  congrArg (fun x => Except.ok (f x, rest)) (append_refBytes d)

/-- A reference is read only from its own two bytes. -/
theorem withRef_eq_ok {f : Ref → Instr} {bytes rest : List Byte} {i : Instr}
    (h : withRef f bytes = .ok (i, rest)) : ∃ d, i = f d ∧ bytes = refBytes d ++ rest := by
  unfold withRef at h
  split at h
  next hi lo tail =>
    cases h
    exact ⟨hi ++ lo, rfl, by rw [refBytes_append]; rfl⟩
  · cases h

theorem withByte_eq_ok {f : Byte → Instr} {bytes rest : List Byte} {i : Instr}
    (h : withByte f bytes = .ok (i, rest)) : ∃ b, i = f b ∧ bytes = b :: rest := by
  cases bytes with
  | nil => cases h
  | cons b tail => cases h; exact ⟨b, rfl, rfl⟩

/-! The rows that take any value the rows above them leave (R85, R84, R124). -/

theorem wf_rxData_iff (b : Byte) :
    (Instr.rxData b).wf = true ↔ b ≠ 0x11 ∧ b ≠ 0x13 ∧ b ≠ 0x7E ∧ b ≠ 0x7D := by
  simp only [Instr.wf, Bool.and_eq_true, bne_iff_ne, and_assoc]

theorem wf_rxOtherType_iff (v : Byte) :
    (Instr.rxOtherType v).wf = true ↔ v ≠ 0x88 ∧ v ≠ 0x8A ∧ v ≠ 0x8B ∧ v ≠ 0x90 := by
  simp only [Instr.wf, Bool.and_eq_true, bne_iff_ne, and_assoc]

theorem wf_msOther_iff (st : Byte) : (Instr.msOther st).wf = true ↔ st ≠ 0x02 ∧ st ≠ 0x03 := by
  simp only [Instr.wf, Bool.and_eq_true, bne_iff_ne]

theorem decodeRaw_of_wf {b : Byte} (h : (Instr.rxData b).wf = true) : decodeRaw b = .rxData b := by
  obtain ⟨h11, h13, h7e, h7d⟩ := (wf_rxData_iff b).mp h
  rw [decodeRaw, if_neg h11, if_neg h13, if_neg h7e, if_neg h7d]

theorem decodeType_of_wf {v : Byte} (h : (Instr.rxOtherType v).wf = true) : decodeType v = .rxOtherType v := by
  obtain ⟨h88, h8a, h8b, h90⟩ := (wf_rxOtherType_iff v).mp h
  rw [decodeType, if_neg h88, if_neg h8a, if_neg h8b, if_neg h90]

theorem decodeStatus_of_wf {st : Byte} (h : (Instr.msOther st).wf = true) : decodeStatus st = .msOther st := by
  obtain ⟨h02, h03⟩ := (wf_msOther_iff st).mp h
  rw [decodeStatus, if_neg h02, if_neg h03]

/-- Settles O1: a row with a reference reads it back, a row of any other value passes the rows above it, and the
bytes of every other row are fixed. -/
theorem decodeOfEncode : Obligations.DecodeOfEncode := by
  intro i rest h
  cases i with
  | submitAt d | submitTx d | receive d | txAtCommand d | txTransmitRequest d => exact withRef_refBytes _ d rest
  | rxData b => exact congrArg (fun i => Except.ok (i, rest)) (decodeRaw_of_wf h)
  | rxOtherType v => exact congrArg (fun i => Except.ok (i, rest)) (decodeType_of_wf h)
  | msOther st => exact congrArg (fun i => Except.ok (i, rest)) (decodeStatus_of_wf h)
  | _ => rfl

/-! Each decoder answers a row of its format, written as the bytes it has read. -/

/-- `i` is a well-formed row of `f`, and `bytes` is how it is written. -/
structure Instr.Writes (f : Format) (bytes : List Byte) (i : Instr) : Prop where
  wf : i.wf = true
  format : i.format = f
  encode : encode i = bytes

theorem decodeOp_writes {op : Byte} {bytes rest : List Byte} {i : Instr} (h : decodeOp op bytes = .ok (i, rest)) :
    ∃ word, op :: bytes = word ++ rest ∧ i.Writes .op3 word := by
  unfold decodeOp at h
  split_ifs at h with h0 h1 h2 h3 h4 h5 h6 h7
  · obtain ⟨b, rfl, rfl⟩ := withByte_eq_ok h
    exact ⟨_, by rw [h0]; rfl, rfl, rfl, rfl⟩
  · cases h; exact ⟨_, by rw [h1]; rfl, rfl, rfl, rfl⟩
  · obtain ⟨d, rfl, rfl⟩ := withRef_eq_ok h
    exact ⟨_, by rw [h2]; rfl, rfl, rfl, rfl⟩
  · obtain ⟨d, rfl, rfl⟩ := withRef_eq_ok h
    exact ⟨_, by rw [h3]; rfl, rfl, rfl, rfl⟩
  · obtain ⟨d, rfl, rfl⟩ := withRef_eq_ok h
    exact ⟨_, by rw [h4]; rfl, rfl, rfl, rfl⟩
  · cases h; exact ⟨_, by rw [h5]; rfl, rfl, rfl, rfl⟩
  · cases h; exact ⟨_, by rw [h6]; rfl, rfl, rfl, rfl⟩
  · cases h; exact ⟨_, by rw [h7]; rfl, rfl, rfl, rfl⟩

theorem decodeTxType_writes {b : Byte} {bytes rest : List Byte} {i : Instr}
    (h : decodeTxType b bytes = .ok (i, rest)) :
    ∃ word, b :: bytes = word ++ rest ∧ i.Writes .txFrameType word := by
  unfold decodeTxType at h
  split_ifs at h with h08 h10
  · obtain ⟨d, rfl, rfl⟩ := withRef_eq_ok h
    exact ⟨_, by rw [h08]; rfl, rfl, rfl, rfl⟩
  · obtain ⟨d, rfl, rfl⟩ := withRef_eq_ok h
    exact ⟨_, by rw [h10]; rfl, rfl, rfl, rfl⟩

theorem decodeRaw_writes (b : Byte) : (decodeRaw b).Writes .rxRawByte [b] := by
  unfold decodeRaw
  split_ifs with h11 h13 h7e h7d
  · exact ⟨rfl, rfl, by rw [h11]; rfl⟩
  · exact ⟨rfl, rfl, by rw [h13]; rfl⟩
  · exact ⟨rfl, rfl, by rw [h7e]; rfl⟩
  · exact ⟨rfl, rfl, by rw [h7d]; rfl⟩
  · exact ⟨(wf_rxData_iff b).mpr ⟨h11, h13, h7e, h7d⟩, rfl, rfl⟩

theorem decodeType_writes (v : Byte) : (decodeType v).Writes .rxFrameType [v] := by
  unfold decodeType
  split_ifs with h88 h8a h8b h90
  · exact ⟨rfl, rfl, by rw [h88]; rfl⟩
  · exact ⟨rfl, rfl, by rw [h8a]; rfl⟩
  · exact ⟨rfl, rfl, by rw [h8b]; rfl⟩
  · exact ⟨rfl, rfl, by rw [h90]; rfl⟩
  · exact ⟨(wf_rxOtherType_iff v).mpr ⟨h88, h8a, h8b, h90⟩, rfl, rfl⟩

theorem decodeStatus_writes (st : Byte) : (decodeStatus st).Writes .modemStatus [st] := by
  unfold decodeStatus
  split_ifs with h02 h03
  · exact ⟨rfl, rfl, by rw [h02]; rfl⟩
  · exact ⟨rfl, rfl, by rw [h03]; rfl⟩
  · exact ⟨(wf_msOther_iff st).mpr ⟨h02, h03⟩, rfl, rfl⟩

theorem decodeEscape_writes {v : Byte} {i : Instr} (h : decodeEscape v = .ok i) : i.Writes .escapePair [v] := by
  unfold decodeEscape at h
  split_ifs at h with h7e h7d h11 h13
  · cases h; exact ⟨rfl, rfl, by rw [h7e]; rfl⟩
  · cases h; exact ⟨rfl, rfl, by rw [h7d]; rfl⟩
  · cases h; exact ⟨rfl, rfl, by rw [h11]; rfl⟩
  · cases h; exact ⟨rfl, rfl, by rw [h13]; rfl⟩

/-- Whatever a format's decoder answers, it has read the bytes that the answer is written as. -/
theorem decode_writes {f : Format} {bytes rest : List Byte} {i : Instr} (h : decode f bytes = .ok (i, rest)) :
    ∃ word, bytes = word ++ rest ∧ i.Writes f word := by
  cases bytes with
  | nil => cases h
  | cons b tail =>
    cases f with
    | op3 => exact decodeOp_writes h
    | txFrameType => exact decodeTxType_writes h
    | rxRawByte => cases h; exact ⟨[b], rfl, decodeRaw_writes b⟩
    | rxFrameType => cases h; exact ⟨[b], rfl, decodeType_writes b⟩
    | modemStatus => cases h; exact ⟨[b], rfl, decodeStatus_writes b⟩
    | escapePair =>
      simp only [decode] at h
      cases he : decodeEscape b with
      | error e => rw [he] at h; cases h
      | ok j => rw [he] at h; cases h; exact ⟨[b], rfl, decodeEscape_writes he⟩

/-- Settles O2, from what each format's decoder reads. -/
theorem encodeOfDecode : Obligations.EncodeOfDecode := by
  intro f bytes rest i h
  obtain ⟨word, rfl, hw⟩ := decode_writes h
  exact ⟨hw.wf, hw.format, by rw [hw.encode]⟩

/-- Settles O3: each word is read by evaluation. -/
theorem tableWordsDecode : Obligations.TableWordsDecode :=
  ⟨rfl, rfl, rfl, rfl, rfl, rfl, rfl, rfl, rfl, rfl, rfl⟩

end Sys2Proof
end

section
/-! The raw-byte rows and the values they carry (R103 to R107). -/

namespace Sys2Proof.Machine

variable {s : State}

/-- Settles O6: the checks of PUSH on the raw byte are the cases of its class. -/
theorem pushRunsTheRawByteRow : Obligations.PushRunsTheRawByteRow := by
  intro b s
  unfold decodeRaw
  split_ifs with h11 h13 h7e h7d
  · rw [h11]; rfl
  · rw [h13]; rfl
  · rw [h7e]; rfl
  · rw [h7d]; rfl
  · have hbody : s.pushBody b = s.dataByte b := by
      rw [State.pushBody, if_neg (by simp [isFlow]; exact ⟨h11, h13⟩), if_neg h7e, if_neg h7d]
    exact congrArg (deliver (.push b) s) hbody

/-- A step that comes to a next state without a fault ran to its end (R161). -/
theorem settle_eq_next_of_no_fault {t : State} (r : Res) (ht : t.fault = none) :
    settle s r = .next t ↔ r = .ok t := by
  rw [settle_eq_next]
  refine or_iff_left ?_
  rintro ⟨f, -, rfl⟩
  cases ht

/-- Settles O23: the raw byte and the row of its value both run that value with the escape flag used up. -/
theorem dataByteActsAsItsValue : Obligations.DataByteActsAsItsValue := by
  refine ⟨fun s t b v h ht => ?_, fun s h hesc => ⟨h, ⟨by decide, by decide, by decide, by decide⟩, ?_⟩⟩
  · have hlive : s.escapeDone.fault = none := h.1.1
    have hrow : exec (decodeType v) s.escapeDone = settle s.escapeDone (s.escapeDone.rxValue v) :=
      exec_decodeType _ v hlive
    rw [execRxData_of_receives s b v h, settle_eq_next_of_no_fault _ ht]
    exact ((settle_eq_next_of_no_fault _ ht).symm.trans (by rw [← hrow]; rfl))
  · rw [if_pos hesc]; rfl

end Sys2Proof.Machine
end

section
/-! The reserved op codes (R89), the escape pairs (R72, R99), and the outgoing headers (R76, R77). -/

namespace Sys2Proof.Machine

variable {s : State}

/-- Settles O8. -/
theorem reservedOpCodesFault : Obligations.ReservedOpCodesFault :=
  ⟨rfl, rfl, fun s h => ⟨taskPhase_of_live s _ h, taskPhase_of_live s _ h⟩⟩

theorem isSpecial_eq_false_iff (v : Byte) : isSpecial v = false ↔ IsData v := by
  simp only [isSpecial, IsData, Bool.or_eq_false_iff, beq_eq_false_iff_ne]
  tauto

/-- Settles O17: a special value is held as the second byte of its pair, any other goes out as it is. -/
theorem specialValuesAreSentAsPairs : Obligations.SpecialValuesAreSentAsPairs := by
  refine ⟨fun s raw h => ?_, fun s raw h => s.txEsc_plain raw ((isSpecial_eq_false_iff raw).mpr h), fun s h =>
    ⟨taskPhase_of_live s _ h, taskPhase_of_live s _ h, taskPhase_of_live s _ h, taskPhase_of_live s _ h⟩⟩
  obtain rfl | rfl | rfl | rfl := h
  all_goals exact s.txEsc_special _ rfl

end Sys2Proof.Machine
end

section
/-! The outgoing headers (R76, R77) and phase A of SUBMIT (R132, R133). -/

namespace Sys2Proof.Machine

variable {s : State}

/-! Phase A of SUBMIT. -/

/-- The tests of a SUBMIT in a block that is idle, for a frame that fits (R161, R170). -/
theorem submitChecks_of_fits {c : TaskCommand} {len : Nat} {k : Res} (hop : s.task.op = .noOp)
    (hidle : s.tx.state = .idle) (hfits : len ≤ 0xFFFF) : s.submitChecks c len k = k := by
  rw [State.submitChecks, if_neg (by simp [hop, hidle]), if_neg (by omega)]

theorem submitAtBody_of_fits {d : Ref} (hop : s.task.op = .noOp) (hidle : s.tx.state = .idle)
    (hfits : 4 + (s.atRecord d).outLen.toNat ≤ 0xFFFF) :
    s.submitAtBody d = .ok ((s.issueId.loadAtCommand (s.atRecord d)).startRequest (.atCommand d) .atResponse) :=
  submitChecks_of_fits hop hidle hfits

theorem submitTxBody_of_fits {d : Ref} (hop : s.task.op = .noOp) (hidle : s.tx.state = .idle)
    (hfits : 14 + (s.txRecord d).dataLen.toNat ≤ 0xFFFF) :
    s.submitTxBody d =
      .ok ((s.issueId.loadTransmitRequest (s.txRecord d)).startRequest (.transmitData d) .transmitStatus) :=
  submitChecks_of_fits hop hidle hfits

/-- Settles O44: phase A runs whole in its critical section, which restores `ie`. -/
theorem submitAtPhaseA : Obligations.SubmitAtPhaseA := by
  rintro s d id hlive hop hidle hfits rfl
  have hbody := submitAtBody_of_fits (s := { s with ie := false }) hop hidle hfits
  rw [exec, execSubmitAt, taskPhase_of_live s _ hlive, State.critical, hbody]
  rfl

/-- The 14 header bytes of a transmit request are laid out with the addresses high byte first (R77). -/
theorem transmitHeader_address (id : Byte) (addr64 : U64) (addr16 : U16) (radius options : Byte) {i : Nat}
    (hi : i < 8) : (transmitHeader id addr64 addr16 radius options)[2 + i]? =
      some (addr64.extractLsb' (56 - 8 * i) 8) := by
  interval_cases i <;> rfl

/-- Settles O45: phase A runs whole in its critical section, which restores `ie`. -/
theorem submitTxPhaseA : Obligations.SubmitTxPhaseA := by
  rintro s d id hlive hop hidle hfits rfl
  have hbody := submitTxBody_of_fits (s := { s with ie := false }) hop hidle hfits
  refine ⟨transmitHeader (nextId s.corr.seqId) (s.txRecord d).addr64 (s.txRecord d).addr16 s.params.txRadius
    s.params.txOptions, ?_, rfl, rfl, fun i hi => transmitHeader_address _ _ _ _ _ hi, rfl, rfl, rfl, rfl⟩
  rw [exec, execSubmitTx, taskPhase_of_live s _ hlive, State.critical, hbody]
  rfl

/-! The outgoing frame-type rows. -/

/-- An AT command request takes the first four bytes of `tx_hdr` and leaves the others (R76). -/
theorem atHeader_toList (old : Vector Byte 14) (id cmd0 cmd1 : Byte) :
    (atHeader old id cmd0 cmd1).toList = [0x08, id, cmd0, cmd1] ++ old.toList.drop 4 := by
  have hlen : old.toList.length = 14 := old.length_toList
  simp only [atHeader, Vector.toList_set]
  match old.toList, hlen with
  | _ :: _ :: _ :: _ :: rest, _ => rfl

theorem execTxAtCommand_of_fits {d : Ref} (hlive : s.Live) (hfits : 4 + (s.atRecord d).outLen.toNat ≤ 0xFFFF) :
    exec (.txAtCommand d) s = .next (s.loadAtCommand (s.atRecord d)) :=
  (taskPhase_of_live s _ hlive).trans (congrArg (settle s) (if_neg (not_lt.mpr hfits)))

theorem execTxTransmitRequest_of_fits {d : Ref} (hlive : s.Live)
    (hfits : 14 + (s.txRecord d).dataLen.toNat ≤ 0xFFFF) :
    exec (.txTransmitRequest d) s = .next (s.loadTransmitRequest (s.txRecord d)) :=
  (taskPhase_of_live s _ hlive).trans (congrArg (settle s) (if_neg (not_lt.mpr hfits)))

/-- Settles O46: a frame that fits is laid out, one that does not is `FLT_TOO_LONG`. -/
theorem outgoingHeaderLayouts : Obligations.OutgoingHeaderLayouts := by
  refine ⟨fun s d hlive hfits => ?_, fun s d hlive hfits => ?_, fun s d hlive hlong => ?_,
    fun s d hlive hlong => ?_⟩
  · exact ⟨_, execTxAtCommand_of_fits hlive hfits, atHeader_toList _ _ _ _⟩
  · exact ⟨_, execTxTransmitRequest_of_fits hlive hfits, rfl⟩
  · exact (taskPhase_of_live s _ hlive).trans (congrArg (settle s) (if_pos hlong))
  · exact (taskPhase_of_live s _ hlive).trans (congrArg (settle s) (if_pos hlong))

end Sys2Proof.Machine
end

section
/-! Scripts in parts (R90). -/

namespace Sys2Proof.Machine

/-- A script whose first operation comes to `t` goes on from `t`. -/
theorem runOps_cons {i : Instr} {ops : List Instr} {s t : State} (h : exec i s = .next t) :
    runOps (i :: ops) s = runOps ops t := by
  rw [runOps, h]

/-- A script whose first part comes to `t` goes on from `t`. -/
theorem runOps_append {ops rest : List Instr} {s t : State} (h : runOps ops s = .next t) :
    runOps (ops ++ rest) s = runOps rest t := by
  induction ops generalizing s with
  | nil => cases h; rfl
  | cons i ops ih =>
    simp only [List.cons_append, runOps] at h ⊢
    cases hi : exec i s with
    | next u => rw [hi] at h; exact ih h
    | fault r => rw [hi] at h; cases h
    | refused r => rw [hi] at h; cases h


end Sys2Proof.Machine
end

section
/-! The PULLs of a frame: value after value, each as the bytes it is sent as (R69 to R73, R101). -/

namespace Sys2Proof.Machine

variable {s t : State}

/-- From `s` as many PULLs as there are `bytes` return exactly those, and come to `t`. -/
structure State.Sends (s : State) (bytes : List Byte) (t : State) : Prop where
  run : runOps (pulls bytes.length) s = .next t
  pulled : t.out.pulled = (bytes.map some).reverse ++ s.out.pulled

theorem State.Sends.trans {u : State} {xs ys : List Byte} (hx : s.Sends xs t) (hy : t.Sends ys u) :
    s.Sends (xs ++ ys) u where
  run := by
    rw [List.length_append, pulls, List.replicate_add]
    exact (runOps_append hx.run).trans hy.run
  pulled := by rw [hy.pulled, hx.pulled]; simp

/-- A Transmitter in the course of its frame, in a block that PULLs can be issued to. -/
structure State.Sending (s : State) : Prop where
  ready : s.Ready
  inv : TxInv s.tx
  valid : ∀ i : Nat, i < s.tx.plen.toNat → addrValid s.params (s.tx.pptr + i) = true

/-- The Transmitter holds no second byte of a pair, so the next PULL begins a value. -/
structure State.BetweenValues (s : State) : Prop extends s.Sending where
  rested : s.tx.escPending = false

theorem State.Sending.pull (h : s.Sending) (ht : s.pullBody = .ok t) : t.Sending := by
  have hcase := pullBody_case ht
  have hinv := hcase.txInv h.inv
  obtain ⟨x, o, hx, rfl⟩ := hcase.pullsTo
  exact ⟨h.ready, hinv, fun i hi => by simpa [hx.pptr] using h.valid i (by simpa [hx.plen] using hi)⟩

theorem State.Sending.sends {b : Byte} (h : s.Sending) (ht : s.pullBody = .ok t)
    (hb : t.out.pulled = some b :: s.out.pulled) : s.Sends [b] t where
  run := runOps_cons ((execPull_of_ready s h.ready).trans (by rw [ht, settle_ok]))
  pulled := hb

/-- A PULL that produces a value through `tx_esc`, with the PULL of the held byte where the value is special: the
bytes of the value, and the Transmitter as that value leaves it (R72, R92, R99). -/
theorem State.Sending.sendsValue {x : TxRegs} {raw : Byte} (h : s.Sending) (hx : x.escPending = false)
    (hp : s.pullBody = .ok (({ s with tx := x } : State).txEsc raw)) :
    ∃ t, s.Sends (wireValue raw) t ∧ t.BetweenValues ∧
      t = { s with tx := { x with escByte := t.tx.escByte }, out := t.out } := by
  cases hraw : isSpecial raw with
  | false =>
    rw [State.txEsc_plain _ _ hraw] at hp
    refine ⟨_, ?_, ⟨h.pull hp, hx⟩, rfl⟩
    rw [wireValue, hraw]
    exact h.sends hp rfl
  | true =>
    rw [State.txEsc_special _ _ hraw] at hp
    have hheld : (State.sendEscaped { s with tx := x } (escapeMask raw)).pullBody =
        .ok (State.sendEscaped { s with tx := x } (escapeMask raw)).pullHeld := if_pos rfl
    refine ⟨_, ?_, ⟨(h.pull hp).pull hheld, rfl⟩, by cases x; cases hx; rfl⟩
    rw [wireValue, hraw]
    exact (h.sends hp rfl).trans ((h.pull hp).sends hheld rfl)

/-! The body. -/

/-- The body bytes still to be produced (R96, R97). -/
def TxRegs.unsent (x : TxRegs) (m : List Host.Cell) : List Byte :=
  match x.state with
  | .header => (x.hdr.toList.take x.hdrLen.toNat).drop x.idx.toNat ++ payloadAt m x.pptr x.plen.toNat
  | .data => (payloadAt m x.pptr x.plen.toNat).drop x.idx.toNat
  | .idle | .frameMark | .length1 | .length2 | .checksum => []

/-- The Transmitter is past the length bytes of a frame, its checksum still unsent. -/
def TxState.IsBody : TxState → Prop
  | .header | .data | .checksum => True
  | .idle | .frameMark | .length1 | .length2 => False

theorem TxState.IsBody.cases {st : TxState} (h : st.IsBody) : (st = .header ∨ st = .data) ∨ st = .checksum := by
  cases st <;> simp_all [TxState.IsBody]

theorem payloadAt_drop (m : List Host.Cell) (ptr n i : Nat) (hi : i < n) :
    (payloadAt m ptr n).drop i = Memory.read m (ptr + i) :: (payloadAt m ptr n).drop (i + 1) := by
  rw [List.drop_eq_getElem_cons (by simpa [payloadAt] using hi)]
  simp [payloadAt]

theorem TxRegs.afterHeaderByte_sum (x : TxRegs) (raw : Byte) : (x.afterHeaderByte raw).sum = x.sum + raw := by
  unfold TxRegs.afterHeaderByte; split <;> rfl

theorem TxRegs.afterHeaderByte_escPending (x : TxRegs) (raw : Byte) :
    (x.afterHeaderByte raw).escPending = x.escPending := by
  unfold TxRegs.afterHeaderByte; split <;> rfl

theorem TxRegs.afterPayloadByte_sum (x : TxRegs) (raw : Byte) : (x.afterPayloadByte raw).sum = x.sum + raw := by
  unfold TxRegs.afterPayloadByte; split <;> rfl

theorem TxRegs.afterPayloadByte_escPending (x : TxRegs) (raw : Byte) :
    (x.afterPayloadByte raw).escPending = x.escPending := by
  unfold TxRegs.afterPayloadByte; split <;> rfl

theorem TxInv.hdrLen_le {x : TxRegs} (h : TxInv x) (hx : x.state ≠ .idle) : x.hdrLen.toNat ≤ 14 := by
  obtain ⟨-, hl⟩ | ⟨-, hl⟩ := h.header hx <;> simp [hl]

/-- An index inside a field's length does not wrap. -/
theorem succ_toNat_of_lt {n : Nat} {i : U16} (hi : i.toNat < n) (hn : n < 2 ^ 16) : (i + 1).toNat = i.toNat + 1 := by
  bv_omega

/-- A header byte is the first of the body bytes still to be produced (R96). -/
theorem TxInv.unsent_header {x : TxRegs} (h : TxInv x) (hs : x.state = .header) (m : List Host.Cell) :
    ∃ raw, x.hdr[x.idx.toNat]? = some raw ∧ (x.afterHeaderByte raw).state.IsBody ∧
      x.unsent m = raw :: (x.afterHeaderByte raw).unsent m := by
  have hi := h.headerIndex hs
  have hl := h.hdrLen_le (by simp [hs])
  have hi14 : x.idx.toNat < 14 := by omega
  have hnext : (x.idx + 1).toNat = x.idx.toNat + 1 := succ_toNat_of_lt hi14 (by decide)
  have hdrop : (x.hdr.toList.take x.hdrLen.toNat).drop x.idx.toNat =
      x.hdr[x.idx.toNat] :: (x.hdr.toList.take x.hdrLen.toNat).drop (x.idx.toNat + 1) := by
    rw [List.drop_eq_getElem_cons (by simp; omega)]
    simp
  refine ⟨x.hdr[x.idx.toNat], Vector.getElem?_eq_getElem hi14, ?_⟩
  simp only [TxRegs.unsent, hs, hdrop, List.cons_append]
  unfold TxRegs.afterHeaderByte
  split
  next hlast =>
    have hend : x.idx.toNat + 1 = x.hdrLen.toNat := by
      rw [← hnext, hlast, BitVec.toNat_setWidth_of_le (by decide)]
    have hnil : (x.hdr.toList.take x.hdrLen.toNat).drop (x.idx.toNat + 1) = [] :=
      List.drop_eq_nil_of_le (by simp; omega)
    rw [hnil]
    split
    next => exact ⟨trivial, rfl⟩
    next hp => exact ⟨trivial, by simp [payloadAt, Nat.eq_zero_of_not_pos hp]⟩
  next => exact ⟨by simp [hs, TxState.IsBody], by simp only [hs, hnext]⟩

/-- A payload byte is the first of the body bytes still to be produced (R97). -/
theorem TxInv.unsent_data {x : TxRegs} (h : TxInv x) (hs : x.state = .data) (m : List Host.Cell) :
    ∃ raw, raw = Memory.read m (x.pptr + x.idx.toNat) ∧
      (x.afterPayloadByte raw).state.IsBody ∧ x.unsent m = raw :: (x.afterPayloadByte raw).unsent m := by
  have hi := h.dataIndex hs
  have hnext : (x.idx + 1).toNat = x.idx.toNat + 1 := succ_toNat_of_lt hi x.plen.isLt
  refine ⟨_, rfl, ?_⟩
  simp only [TxRegs.unsent, hs, payloadAt_drop m x.pptr x.plen.toNat x.idx.toNat hi]
  unfold TxRegs.afterPayloadByte
  split
  next hlast =>
    refine ⟨trivial, congrArg _ (List.drop_eq_nil_of_le ?_)⟩
    rw [← hnext, hlast]; simp [payloadAt]
  next => exact ⟨by simp [hs, TxState.IsBody], by simp only [hs, hnext]⟩

/-- A PULL in the body produces the first of the body bytes still to be produced, and sums it (R96, R97). -/
theorem State.BetweenValues.pullBody_of_body (h : s.BetweenValues)
    (hs : s.tx.state = .header ∨ s.tx.state = .data) :
    ∃ raw x, s.pullBody = .ok (State.txEsc { s with tx := x } raw) ∧ x.escPending = false ∧ x.state.IsBody ∧
      s.tx.unsent s.mem = raw :: x.unsent s.mem ∧ x.sum = s.tx.sum + raw := by
  have hrested : ¬ s.tx.escPending = true := by simp [h.rested]
  obtain hs | hs := hs
  · obtain ⟨raw, hraw, hbody, hunsent⟩ := h.inv.unsent_header hs s.mem
    refine ⟨raw, s.tx.afterHeaderByte raw, ?_, (s.tx.afterHeaderByte_escPending raw).trans h.rested, hbody, hunsent,
      s.tx.afterHeaderByte_sum raw⟩
    rw [State.pullBody, if_neg hrested, hs, State.pullHeader, hraw]
  · obtain ⟨raw, hraw, hbody, hunsent⟩ := h.inv.unsent_data hs s.mem
    have hvalid := h.valid _ (h.inv.dataIndex hs)
    refine ⟨raw, s.tx.afterPayloadByte raw, ?_, (s.tx.afterPayloadByte_escPending raw).trans h.rested, hbody,
      hunsent, s.tx.afterPayloadByte_sum raw⟩
    rw [State.pullBody, if_neg hrested, hs, State.pullData, (s.memRead_eq_some _ _).mpr ⟨hvalid, hraw⟩]

/-- The body bytes still to be produced go out, up to the checksum (R96, R97). -/
theorem State.BetweenValues.sendsBody {vs : List Byte} (h : s.BetweenValues) (hs : s.tx.state.IsBody)
    (hvs : s.tx.unsent s.mem = vs) :
    ∃ t, s.Sends (vs.flatMap wireValue) t ∧ t.BetweenValues ∧ t.tx.state = .checksum ∧
      t.tx.sum = s.tx.sum + bodySum vs := by
  induction vs generalizing s with
  | nil =>
    obtain hb | hc := hs.cases
    · obtain ⟨raw, x, -, -, -, hcons, -⟩ := h.pullBody_of_body hb
      cases hvs.symm.trans hcons
    · exact ⟨s, ⟨rfl, rfl⟩, h, hc, (add_zero _).symm⟩
  | cons v vs ih =>
    obtain hb | hc := hs.cases
    · obtain ⟨raw, x, hp, hx, hbody, hcons, hsum⟩ := h.pullBody_of_body hb
      obtain ⟨rfl, rfl⟩ := List.cons.inj (hvs.symm.trans hcons)
      obtain ⟨t, hsends, ht, heq⟩ := h.sendsValue hx hp
      have hbody' : t.tx.state.IsBody := by rw [heq]; exact hbody
      obtain ⟨u, hrest, hu, hchecksum, husum⟩ := ih ht hbody' (by rw [heq]; rfl)
      refine ⟨u, hsends.trans hrest, hu, hchecksum, ?_⟩
      have htsum : t.tx.sum = s.tx.sum + v := by rw [heq]; exact hsum
      rw [husum, htsum, bodySum, add_assoc]
    · simp [TxRegs.unsent, hc] at hvs

/-! The whole frame. -/

theorem txBody_length (h : TxInv s.tx) (hx : s.tx.state ≠ .idle) : s.txBody.length = s.tx.flen.toNat := by
  have hl := h.hdrLen_le hx
  rw [h.length hx, State.txBody, frameLength]
  simp [payloadAt]
  omega

/-- The delimiter and the length bytes go out, and the whole body is then still to be produced (R94, R95). -/
theorem State.BetweenValues.sendsLength (h : s.BetweenValues) (hs : s.tx.state = .frameMark) :
    ∃ t, s.Sends (0x7E :: (wireValue (hiByte s.tx.flen) ++ wireValue (loByte s.tx.flen))) t ∧ t.BetweenValues ∧
      t.tx.state.IsBody ∧ t.tx.sum = 0 ∧ t.tx.unsent t.mem = s.txBody := by
  have hmark : s.pullBody = .ok s.pullFrameMark := by
    rw [State.pullBody, if_neg (by simp [h.rested]), hs]
  obtain ⟨t, hhigh, ht, heq⟩ := (h.pull hmark).sendsValue (x := { s.pullFrameMark.tx with state := .length2 })
    (raw := hiByte s.tx.flen) h.rested (by
      rw [State.pullBody, if_neg (by simp [State.pullFrameMark, h.rested])]; rfl)
  obtain ⟨u, hlow, hu, heq'⟩ := ht.sendsValue (x := { t.tx with idx := 0, state := .header })
    (raw := loByte s.tx.flen) ht.rested (by
      rw [State.pullBody, if_neg (by simp [ht.rested]), heq]; rfl)
  refine ⟨u, (h.sends hmark rfl).trans (hhigh.trans hlow), hu, ?_⟩
  rw [heq', heq]
  exact ⟨trivial, rfl, rfl⟩

/-- The checksum goes out, and the Transmitter is Idle (R98). -/
theorem State.BetweenValues.sendsChecksum (h : s.BetweenValues) (hs : s.tx.state = .checksum) :
    ∃ t, s.Sends (wireValue (checksumOf s.tx.sum)) t ∧ t.BetweenValues ∧ t.tx.state = .idle := by
  obtain ⟨t, hsends, ht, heq⟩ := h.sendsValue (x := { s.tx with state := .idle }) (raw := checksumOf s.tx.sum)
    h.rested (by rw [State.pullBody, if_neg (by simp [h.rested]), hs]; rfl)
  exact ⟨t, hsends, ht, by rw [heq]⟩

theorem flatMap_frameValues (body : List Byte) : (frameValues body).flatMap wireValue =
    wireValue (hiByte (BitVec.ofNat 16 body.length)) ++ wireValue (loByte (BitVec.ofNat 16 body.length)) ++
      (body.flatMap wireValue ++ wireValue (checksumOf (bodySum body))) := by
  simp [frameValues]

theorem State.BetweenValues.sendsFrame (h : s.BetweenValues) (hs : s.tx.state = .frameMark) :
    ∃ t, s.Sends (wireFrame s.txBody) t ∧ t.BetweenValues ∧ t.tx.state = .idle := by
  obtain ⟨t, hlength, ht, hbody, hzero, hunsent⟩ := h.sendsLength hs
  obtain ⟨u, hbytes, hu, hchecksum, hsum⟩ := ht.sendsBody hbody hunsent
  obtain ⟨v, hlast, hv, hidle⟩ := hu.sendsChecksum hchecksum
  have hflen : BitVec.ofNat 16 s.txBody.length = s.tx.flen := by
    rw [txBody_length h.inv (by simp [hs]), BitVec.ofNat_toNat, BitVec.setWidth_eq]
  have hbodySum : u.tx.sum = bodySum s.txBody := by rw [hsum, hzero, zero_add]
  refine ⟨v, ?_, hv, hidle⟩
  rw [wireFrame, flatMap_frameValues, hflen, ← hbodySum]
  exact hlength.trans (hbytes.trans hlast)

/-- Settles O20: the delimiter, the length, the body and the checksum go out value after value. -/
theorem transmitterSendsTheFrame : Obligations.TransmitterSendsTheFrame := by
  intro s hready hs hrested hinv hvalid
  have h : s.BetweenValues := ⟨⟨hready, hinv, hvalid⟩, hrested⟩
  obtain ⟨t, hsends, ht, hidle⟩ := h.sendsFrame hs
  refine ⟨t, hsends.run, hsends.pulled, hidle, ht.rested, ?_⟩
  rw [execPull_of_ready t ht.ready, State.pullBody, if_neg (by simp [ht.rested]), hidle]
  rfl

end Sys2Proof.Machine
end

section
/-! The values of a wire stream, as PUSHes bring them to the Receiver (R104 to R107). -/

namespace Sys2Proof.Machine

variable {s t : State}

/-- The values that reach the Receiver, one after the other, up to the first that does not come to its end. -/
def State.feed : List Byte → State → Res
  | [], s => .ok s
  | v :: vs, s => (s.rxValue v).andThen (State.feed vs)

theorem feed_cons {v : Byte} {vs : List Byte} (h : s.rxValue v = .ok t) : s.feed (v :: vs) = t.feed vs := by
  rw [State.feed, h, Res.andThen_ok]

theorem feed_append {vs ws : List Byte} (h : s.feed vs = .ok t) : s.feed (vs ++ ws) = t.feed ws := by
  induction vs generalizing s with
  | nil => cases h; rfl
  | cons v vs ih =>
    obtain ⟨u, hu, ht⟩ := (Res.andThen_eq_ok _ _ _).mp h
    exact (feed_cons hu).trans (ih ht)

/-- A property of the values fed so far that every further value up to `n` keeps holds after all of them. -/
theorem feed_induct {P : List Byte → State → Prop} {n : Nat}
    (step : ∀ bytes t v, P bytes t → bytes.length < n → ∃ u, t.rxValue v = .ok u ∧ P (bytes ++ [v]) u)
    {bytes vs : List Byte} (h : P bytes t) (hn : bytes.length + vs.length ≤ n) :
    ∃ u, t.feed vs = .ok u ∧ P (bytes ++ vs) u := by
  induction vs generalizing bytes t with
  | nil => exact ⟨t, rfl, by rwa [List.append_nil]⟩
  | cons v vs ih =>
    rw [List.length_cons] at hn
    obtain ⟨u, hu, hP⟩ := step bytes t v h (by omega)
    obtain ⟨w, hw, hP⟩ := ih hP (by rw [List.length_append, List.length_singleton]; omega)
    exact ⟨w, (feed_cons hu).trans hw, by simpa using hP⟩

/-! One value, and the frame after a delimiter. -/

/-- PUSHes are delivered and no escape pair is open. -/
structure State.Listening (s : State) : Prop where
  ready : s.Ready
  esc : s.rx.esc = false

theorem completeModemStatus_rx (s : State) : s.completeModemStatus.rx = s.rx := by
  unfold State.completeModemStatus
  split_ifs <;> rfl

theorem completeTransmitStatus_rx (h : s.completeTransmitStatus = .ok t) : t.rx = s.rx := by
  unfold State.completeTransmitStatus at h
  split at h
  · cases h
  · cases h; simp

theorem completeAtResponse_rx (h : s.completeAtResponse = .ok t) : t.rx = s.rx := by
  unfold State.completeAtResponse at h
  split at h
  · cases h
  · dsimp only at h
    split at h
    · rw [drawInBuffer_shape h]; simp
    · cases h; simp

theorem completeDelivery_rx (h : s.completeDelivery = .ok t) : t.rx = s.rx := by
  unfold State.completeDelivery at h
  split at h
  · cases h
  · cases h; rfl

/-- The completions leave the Receiver's own fields alone (R123 to R128). -/
theorem complete_rx (h : s.complete = .ok t) : t.rx = s.rx := by
  unfold State.complete at h
  split at h
  next => cases h; exact completeModemStatus_rx s
  next => exact completeTransmitStatus_rx h
  next => exact completeAtResponse_rx h
  next => exact completeDelivery_rx h
  all_goals cases h; rfl

theorem TypeCase.esc_eq (h : TypeCase s t) : t.rx.esc = s.rx.esc := by cases h <;> rfl

theorem BodyCase.esc_eq {v : Byte} (h : BodyCase s v t) : t.rx.esc = s.rx.esc := by cases h <;> rfl

theorem checksumByte_esc {v : Byte} (h : s.checksumByte v = .ok t) : t.rx.esc = s.rx.esc := by
  unfold State.checksumByte at h
  split at h
  · obtain ⟨u, hu, ht⟩ := (Res.andThen_eq_ok _ _ _).mp h
    cases ht
    rw [State.setRxState_rx, complete_rx hu]
  · cases h; rfl

theorem bodyValue_esc {v : Byte} (h : s.bodyValue v = .ok t) : t.rx.esc = s.rx.esc := by
  unfold State.bodyValue at h
  split at h
  · exact (bodyByte_case h).esc_eq
  · exact checksumByte_esc h

theorem lengthLow_esc (s : State) (v : Byte) : (s.lengthLow v).rx.esc = s.rx.esc := by
  unfold State.lengthLow
  dsimp only
  split <;> rfl

/-- No value touches the escape flag: the raw byte that carried it has used it up (R107). -/
theorem rxValue_esc {v : Byte} (h : s.rxValue v = .ok t) : t.rx.esc = s.rx.esc := by
  unfold State.rxValue at h
  split at h
  next => cases h; rfl
  next => cases h; rfl
  next => cases h; exact lengthLow_esc s v
  next => exact (typeByte_case h).esc_eq
  all_goals exact bodyValue_esc h

theorem State.Listening.rxValue {v : Byte} (h : s.Listening) (ht : s.rxValue v = .ok t) : t.Listening := by
  have hkept := (rxValue_effect ht).kept
  exact ⟨⟨hkept.fault.trans h.ready.1, hkept.ie.trans h.ready.2⟩, (rxValue_esc ht).trans h.esc⟩

theorem escapeDone_of_esc (h : s.rx.esc = false) : s.escapeDone = s := by
  rw [State.escapeDone, ← h]

/-- The second byte of an escape pair is a data byte (R72, R73). -/
theorem isData_escapeMask (v : Byte) : isSpecial v = true → IsData (escapeMask v) := by
  revert v; unfold IsData; decide

theorem escapeMask_escapeMask (v : Byte) : escapeMask (escapeMask v) = v := by
  revert v; decide

/-- The bytes of a value bring that value to the Receiver (R72, R106, R107). -/
theorem State.Listening.runOps_wireValue {v : Byte} (h : s.Listening) (ht : s.rxValue v = .ok t) :
    runOps (pushAll (wireValue v)) s = .next t := by
  cases hv : isSpecial v with
  | false =>
    have hrec : s.Receives v v := ⟨h.ready, (isSpecial_eq_false_iff v).mp hv, by simp [h.esc]⟩
    rw [wireValue, hv]
    refine runOps_cons (ops := []) ?_
    rw [execPush_of_receives s v v hrec, escapeDone_of_esc h.esc, ht, settle_ok]
  | true =>
    have hopen : exec (.push 0x7D) s = .next s.escapeNext := execPush_of_ready s 0x7D h.ready
    have hrec : s.escapeNext.Receives (escapeMask v) v :=
      ⟨h.ready, isData_escapeMask v hv, (escapeMask_escapeMask v).symm⟩
    have hclosed : s.escapeNext.escapeDone = s := escapeDone_of_esc h.esc
    rw [wireValue, hv]
    refine (runOps_cons hopen).trans (runOps_cons (ops := []) ?_)
    rw [execPush_of_receives _ _ v hrec, hclosed, ht, settle_ok]

theorem State.Listening.runOps_values {vs : List Byte} (h : s.Listening) (ht : s.feed vs = .ok t) :
    runOps (pushAll (vs.flatMap wireValue)) s = .next t := by
  induction vs generalizing s with
  | nil => cases ht; rfl
  | cons v vs ih =>
    obtain ⟨u, hu, ht⟩ := (Res.andThen_eq_ok _ _ _).mp ht
    rw [List.flatMap_cons, pushAll, List.map_append]
    exact (runOps_append (h.runOps_wireValue hu)).trans (ih (h.rxValue hu) ht)

theorem State.Listening.feed {vs : List Byte} (h : s.Listening) (ht : s.feed vs = .ok t) : t.Listening := by
  induction vs generalizing s with
  | nil => cases ht; exact h
  | cons v vs ih =>
    obtain ⟨u, hu, ht⟩ := (Res.andThen_eq_ok _ _ _).mp ht
    exact ih (h.rxValue hu) ht

theorem listening_resync (h : s.Ready) : s.resync.Listening := ⟨by simpa [State.Ready] using h, by simp⟩

/-- The delimiter, and then the values of a frame (R105). -/
theorem runOps_frame {vs : List Byte} (h : s.Ready) (ht : s.resync.feed vs = .ok t) :
    runOps (pushAll (0x7E :: vs.flatMap wireValue)) s = .next t := by
  have hmark : exec (.push 0x7E) s = .next s.resync := execPush_of_ready s 0x7E h
  exact (runOps_cons hmark).trans ((listening_resync h).runOps_values ht)

/-! Flow bytes. -/

theorem exec_push_of_flow {b : Byte} (h : s.Ready) (hb : isFlow b = true) : exec (.push b) s = .next s := by
  rw [execPush_of_ready s b h, State.pushBody, if_pos hb, settle_ok]

/-- A script of PUSHes that ends without a fault began without one (R161). -/
theorem no_fault_of_runOps_pushAll {raw : List Byte} (h : runOps (pushAll raw) s = .next t) (ht : t.fault = none) :
    s.fault = none := by
  cases raw with
  | nil => cases h; exact ht
  | cons b raw =>
    cases hu : exec (.push b) s with
    | next u => exact ((deliver_eq_next s u _ _).mp hu).1
    | fault r | refused r => rw [pushAll, List.map_cons, runOps, hu] at h; cases h

/-- Flow bytes among the bytes of a script that ends without a fault change nothing (R104). -/
theorem runOps_pushAll_of_filter {raw : List Byte} (hs : s.Ready) (ht : t.fault = none)
    (h : runOps (pushAll (raw.filter fun b => !isFlow b)) s = .next t) : runOps (pushAll raw) s = .next t := by
  induction raw generalizing s with
  | nil => exact h
  | cons b raw ih =>
    cases hb : isFlow b with
    | true =>
      rw [List.filter_cons_of_neg (by simp [hb])] at h
      exact (runOps_cons (exec_push_of_flow hs hb)).trans (ih hs h)
    | false =>
      rw [List.filter_cons_of_pos (by simp [hb])] at h
      cases hu : exec (.push b) s with
      | next u =>
        have hrest := (runOps_cons hu).symm.trans h
        have hie : u.ie = s.ie := by
          obtain ⟨-, -, hie, -⟩ := pushFrame s u b hs hu
          exact hie
        have hready : u.Ready := ⟨no_fault_of_runOps_pushAll hrest ht, hie.trans hs.2⟩
        exact (runOps_cons hu).trans (ih hready hrest)
      | fault r | refused r => rw [pushAll, List.map_cons, runOps, hu] at h; cases h

end Sys2Proof.Machine
end

section
/-! The length and the type byte of a frame just begun (R109 to R117). -/

namespace Sys2Proof.Machine

variable {s t : State}

/-! The length. -/

theorem pair_or_pair (h l : Byte) : pair h 0 ||| pair 0 l = pair h l := by
  unfold pair
  rw [BitVec.or_append]
  simp

theorem pair_hiByte_loByte (v : U16) : pair (hiByte v) (loByte v) = v := append_refBytes v

/-- The Receiver at the type byte of a frame of `declared` body bytes (R110). -/
def State.atTypeOf (s : State) (declared : U16) : State :=
  { s with rx := { s.rx with len := declared - 1, state := .frameType } }

/-- The two length bytes of a frame that is not empty (R109, R110). -/
theorem feed_length {declared : U16} {vs : List Byte} (hs : s.rx.state = .length1) (h0 : declared ≠ 0) :
    s.feed (hiByte declared :: loByte declared :: vs) = (s.atTypeOf declared).feed vs := by
  have hhigh : s.rxValue (hiByte declared) = .ok (s.lengthHigh (hiByte declared)) := by
    rw [State.rxValue, hs]
  have hlen : pair (hiByte declared) 0 ||| pair 0 (loByte declared) = declared := by
    rw [pair_or_pair, pair_hiByte_loByte]
  have hlow : (s.lengthHigh (hiByte declared)).rxValue (loByte declared) = .ok (s.atTypeOf declared) := by
    rw [State.rxValue, State.lengthHigh_rx]
    simp only [State.lengthLow, State.lengthHigh_rx, hlen, if_neg h0]
    rfl
  rw [feed_cons hhigh, feed_cons hlow]

/-! The type byte. -/

/-- Every byte of the session's buffer that the frame may store has a valid address (R52, R120). -/
def State.BufferValid (s : State) : Prop :=
  s.rx.state = .dataRequested → ∃ r, s.corr.sess = some r ∧
    ∀ j : Nat, j < s.rx.limit.toNat → addrValid s.params ((s.recvRecord r).bufPtr + j) = true

/-- A pending session has a buffer of valid addresses (R52). -/
def State.SessionValid (s : State) : Prop :=
  s.corr.sessPending = true → ∃ r, s.corr.sess = some r ∧
    ∀ j : Nat, j < (s.recvRecord r).cap.toNat → addrValid s.params ((s.recvRecord r).bufPtr + j) = true

/-- 0x90 accepted for the session of `r` (R116). -/
def State.acceptForSession (s : State) (r : Ref) : State :=
  { s.startBody 0x90 with rx := { (s.startBody 0x90).rx with
      full := s.rx.len - 11, limit := minLen (s.rx.len - 11) (s.recvRecord r).cap, state := .dataRequested } }

theorem acceptReceivePacket_of_session {r : Ref} (hl : 11 ≤ s.rx.len.toNat) (hp : s.corr.sessPending = true)
    (hr : s.corr.sess = some r) : (s.startBody 0x90).acceptReceivePacket = .ok (s.acceptForSession r) := by
  unfold State.acceptReceivePacket
  simp only [State.startBody_rx, State.startBody_corr, hp, hr, if_true, if_neg (not_lt.mpr hl)]
  rfl

/-- What the type byte `v` comes to: the sum and the count begun, and the frame accepted or given up. -/
structure State.TypeRead (s : State) (v : Byte) (t : State) : Prop where
  kept : t = { s with rx := t.rx, out := t.out }
  len : t.rx.len = s.rx.len
  count : t.rx.count = 0
  sum : t.rx.sum = v
  next : t.rx.state = .frameMark ∨ t.rx.state.IsBody ∧ ∃ h, headerSize t.rx.type = some h
  buffer : t.BufferValid

theorem State.TypeRead.discard (v : Byte) (r : DiscardReason) : s.TypeRead v ((s.startBody v).discard r) where
  kept := rfl
  len := rfl
  count := rfl
  sum := rfl
  next := .inl rfl
  buffer := nofun

theorem acceptReceivePacket_reads (h : s.SessionValid) :
    ∃ t, (s.startBody 0x90).acceptReceivePacket = .ok t ∧ s.TypeRead 0x90 t := by
  by_cases hl : s.rx.len.toNat < 11
  · exact ⟨_, if_pos hl, .discard _ _⟩
  cases hp : s.corr.sessPending with
  | true =>
    obtain ⟨r, hr, hv⟩ := h hp
    have hbuffer : (s.acceptForSession r).BufferValid := fun _ =>
      ⟨r, hr, fun j hj => hv j (hj.trans_le (minLen_le _ _).2)⟩
    exact ⟨_, acceptReceivePacket_of_session (not_lt.mp hl) hp hr, rfl, rfl, rfl, rfl, .inr ⟨trivial, 11, rfl⟩, hbuffer⟩
  | false =>
    unfold State.acceptReceivePacket
    simp only [State.startBody_rx, State.startBody_corr, if_neg hl, hp, Bool.false_eq_true, if_false]
    exact ⟨_, rfl, rfl, rfl, rfl, rfl, .inr ⟨trivial, 11, rfl⟩, nofun⟩

theorem acceptModemStatus_reads (s : State) : s.TypeRead 0x8A (s.startBody 0x8A).acceptModemStatus := by
  unfold State.acceptModemStatus
  split_ifs
  · exact .discard _ _
  · exact ⟨rfl, rfl, rfl, rfl, .inr ⟨trivial, 1, rfl⟩, nofun⟩

theorem acceptTransmitStatus_reads (s : State) : s.TypeRead 0x8B (s.startBody 0x8B).acceptTransmitStatus := by
  unfold State.acceptTransmitStatus
  split_ifs
  · exact .discard _ _
  · exact .discard _ _
  · exact ⟨rfl, rfl, rfl, rfl, .inr ⟨trivial, 6, rfl⟩, nofun⟩

theorem acceptAtResponse_reads (s : State) : s.TypeRead 0x88 (s.startBody 0x88).acceptAtResponse := by
  unfold State.acceptAtResponse
  split_ifs
  · exact .discard _ _
  · exact .discard _ _
  · exact ⟨rfl, rfl, rfl, rfl, .inr ⟨trivial, 4, rfl⟩, nofun⟩

/-- Whatever the type byte, it comes to its end (R112 to R117). -/
theorem typeByte_reads (v : Byte) (h : s.SessionValid) : ∃ t, s.typeByte v = .ok t ∧ s.TypeRead v t := by
  unfold State.typeByte
  split_ifs with h8a h8b h88 h90
  · exact ⟨_, rfl, h8a ▸ acceptModemStatus_reads s⟩
  · exact ⟨_, rfl, h8b ▸ acceptTransmitStatus_reads s⟩
  · exact ⟨_, rfl, h88 ▸ acceptAtResponse_reads s⟩
  · exact h90 ▸ acceptReceivePacket_reads h
  · exact ⟨_, rfl, .discard v .type⟩

end Sys2Proof.Machine
end

section
/-! The body of a frame, byte after byte (R118 to R120). -/

namespace Sys2Proof.Machine

variable {s t u : State}

theorem bodySum_append (xs ys : List Byte) : bodySum (xs ++ ys) = bodySum xs + bodySum ys := by
  induction xs with
  | nil => exact (zero_add _).symm
  | cons x xs ih => rw [List.cons_append, bodySum, bodySum, ih, add_assoc]

/-- `t` is `s`, which has just accepted a frame, after the first body bytes `bytes`: they are summed and counted, and
nothing else but the header, the scratch buffer and memory may differ. -/
structure State.Collected (s : State) (bytes : List Byte) (t : State) : Prop where
  state : t.rx.state = s.rx.state
  type : t.rx.type = s.rx.type
  len : t.rx.len = s.rx.len
  limit : t.rx.limit = s.rx.limit
  sum : t.rx.sum = s.rx.sum + bodySum bytes
  count : t.rx.count.toNat = bytes.length
  corr : t.corr = s.corr
  recs : t.recs = s.recs
  params : t.params = s.params

theorem State.Collected.nil (hc : s.rx.count = 0) : s.Collected [] s :=
  ⟨rfl, rfl, rfl, rfl, (add_zero _).symm, by rw [hc]; rfl, rfl, rfl, rfl⟩

/-- A body byte that comes to its end is summed and counted, and keeps the rest (R118). -/
theorem BodyCase.kept {v : Byte} (h : BodyCase s v t) :
    t.rx.state = s.rx.state ∧ t.rx.type = s.rx.type ∧ t.rx.len = s.rx.len ∧ t.rx.limit = s.rx.limit ∧
      t.rx.sum = s.rx.sum + v ∧ t.rx.count = s.rx.count + 1 ∧ t.corr = s.corr ∧ t.recs = s.recs ∧
      t.params = s.params := by
  cases h <;> exact ⟨rfl, rfl, rfl, rfl, rfl, rfl, rfl, rfl, rfl⟩

theorem State.Collected.snoc {bytes : List Byte} {v : Byte} (h : s.Collected bytes t) (hb : BodyCase t v u)
    (hlt : bytes.length < s.rx.len.toNat) : s.Collected (bytes ++ [v]) u := by
  obtain ⟨hstate, htype, hlen, hlimit, hsum, hcount, hcorr, hrecs, hparams⟩ := hb.kept
  have hnext : (t.rx.count + 1).toNat = t.rx.count.toNat + 1 :=
    succ_toNat_of_lt (h.count ▸ hlt) s.rx.len.isLt
  exact {
    state := hstate.trans h.state, type := htype.trans h.type, len := hlen.trans h.len
    limit := hlimit.trans h.limit, corr := hcorr.trans h.corr, recs := hrecs.trans h.recs
    params := hparams.trans h.params
    sum := by rw [hsum, h.sum, bodySum_append, bodySum, bodySum, add_zero, add_assoc]
    count := by rw [hcount, hnext, h.count, List.length_append, List.length_singleton] }

theorem State.Collected.recvRecord {bytes : List Byte} (h : s.Collected bytes t) (r : Ref) :
    t.recvRecord r = s.recvRecord r := by
  rw [State.recvRecord, h.recs]; rfl

theorem State.Collected.bufferValid {bytes : List Byte} (h : s.Collected bytes t) (hs : s.BufferValid) :
    t.BufferValid := by
  intro hd
  obtain ⟨r, hr, hv⟩ := hs (h.state ▸ hd)
  refine ⟨r, h.corr ▸ hr, fun j hj => ?_⟩
  rw [h.recvRecord, h.params]
  exact hv j (h.limit ▸ hj)

/-- A body value before the checksum (R118). -/
theorem State.Collected.rxValue {bytes : List Byte} (h : s.Collected bytes t) (v : Byte)
    (hs : s.rx.state.IsBody) (hlt : bytes.length < s.rx.len.toNat) : t.rxValue v = t.bodyByte v := by
  rw [rxValue_of_body t v (h.state ▸ hs), bodyValue_of_lt t v (by rw [h.count, h.len]; exact hlt)]

/-! One body byte. -/

theorem bodyByte_of_header {v : Byte} {k : Nat} (hk : headerSize s.rx.type = some k) (hlt : s.rx.count.toNat < k) :
    s.bodyByte v = .ok ((s.storeHeader v).countByte v) := by
  rw [State.bodyByte, hk]
  exact if_pos hlt

theorem bodyByte_of_payload {v : Byte} {k : Nat} (hk : headerSize s.rx.type = some k) (hle : k ≤ s.rx.count.toNat) :
    s.bodyByte v = (s.payloadByte k v).andThen fun t => .ok (t.countByte v) := by
  rw [State.bodyByte, hk]
  exact if_neg (not_lt.mpr hle)

theorem payloadToSession_of_valid {v : Byte} {j : Nat} {r : Ref} (hj : j < s.rx.limit.toNat)
    (hr : s.corr.sess = some r) (hv : addrValid s.params ((s.recvRecord r).bufPtr + j) = true) :
    s.payloadToSession j v = .ok { s with mem := Memory.write s.mem ((s.recvRecord r).bufPtr + j) v } := by
  rw [State.payloadToSession, if_pos hj, hr]
  dsimp only
  rw [(State.memWrite_eq_some s _ _ v).mpr ⟨hv, rfl⟩]

theorem payloadToSession_of_limit {v : Byte} {j : Nat} (hj : s.rx.limit.toNat ≤ j) :
    s.payloadToSession j v = .ok s := if_neg (not_lt.mpr hj)

theorem payloadByte_comes {v : Byte} {k : Nat} (hb : s.BufferValid) : ∃ t, s.payloadByte k v = .ok t := by
  unfold State.payloadByte
  split
  · exact ⟨_, rfl⟩
  next hs =>
    obtain hj | hj := lt_or_ge (s.rx.count.toNat - k) s.rx.limit.toNat
    · obtain ⟨r, hr, hv⟩ := hb hs
      exact ⟨_, payloadToSession_of_valid hj hr (hv _ hj)⟩
    · exact ⟨_, payloadToSession_of_limit hj⟩
  all_goals exact ⟨_, rfl⟩

/-- A body byte of an accepted frame comes to its end (R118 to R120). -/
theorem bodyByte_comes {v : Byte} {k : Nat} (hk : headerSize s.rx.type = some k) (hb : s.BufferValid) :
    ∃ t, s.bodyByte v = .ok t := by
  obtain hlt | hle := lt_or_ge s.rx.count.toNat k
  · exact ⟨_, bodyByte_of_header hk hlt⟩
  · obtain ⟨t, ht⟩ := payloadByte_comes (v := v) (k := k) hb
    exact ⟨_, by rw [bodyByte_of_payload hk hle, ht, Res.andThen_ok]⟩

end Sys2Proof.Machine
end

section
/-! A frame whose checksum does not match (R121, R122, R131). -/

namespace Sys2Proof.Machine

variable {s t : State}

theorem bodySum_set {l : List Byte} {i : Nat} {v : Byte} (w : Byte) (h : l[i]? = some v) :
    bodySum (l.set i w) + v = bodySum l + w := by
  induction l generalizing i with
  | nil => cases h
  | cons x xs ih =>
    cases i with
    | zero =>
      cases h
      rw [List.set_cons_zero, bodySum, bodySum]
      ring
    | succ i =>
      rw [List.set_cons_succ, bodySum, bodySum, add_assoc, ih h, add_assoc]

/-- The body values and the checksum sum to 0xFF (R71). -/
theorem bodySum_checksum (body : List Byte) : bodySum (body ++ [checksumOf (bodySum body)]) = 0xFF := by
  rw [bodySum_append, bodySum, bodySum, checksumOf, add_zero, add_sub_cancel]

theorem xor_bit_ne {n : Nat} (v : Byte) (hn : n < 8) : v ^^^ (1 <<< n) ≠ v := by
  have hbit : ((1 <<< n : Nat) : Byte) ≠ 0 := by interval_cases n <;> decide
  exact fun h => hbit (xor_left_eq_self_iff.mp h)

/-- In frame search no value changes anything (R108). -/
theorem feed_of_frameMark (vs : List Byte) (hs : s.rx.state = .frameMark) : s.feed vs = .ok s := by
  induction vs with
  | nil => rfl
  | cons v vs ih => exact (feed_cons (by rw [State.rxValue, hs])).trans ih

/-- A frame of an accepted type with a checksum that does not match is collected and then given up (R121, R122). -/
theorem feed_of_mismatch {vs : List Byte} {c : Byte} {k : Nat} (hbody : s.rx.state.IsBody) (hc : s.rx.count = 0)
    (hk : headerSize s.rx.type = some k) (hb : s.BufferValid) (hlen : vs.length = s.rx.len.toNat)
    (hsum : s.rx.sum + bodySum vs + c ≠ 0xFF) :
    ∃ t, s.feed (vs ++ [c]) = .ok t ∧ t.rx.state = .frameMark ∧ t.corr = s.corr ∧ t.recs = s.recs := by
  have step : ∀ bytes t v, s.Collected bytes t → bytes.length < s.rx.len.toNat →
      ∃ u, t.rxValue v = .ok u ∧ s.Collected (bytes ++ [v]) u := fun bytes t v h hlt => by
    obtain ⟨u, hu⟩ := bodyByte_comes (v := v) (h.type ▸ hk) (h.bufferValid hb)
    exact ⟨u, (h.rxValue v hbody hlt).trans hu, h.snoc (bodyByte_case hu) hlt⟩
  obtain ⟨t, ht, hall⟩ := feed_induct step (.nil hc) (vs := vs) (by simp [hlen])
  rw [List.nil_append] at hall
  have hcount : t.rx.count = t.rx.len := BitVec.eq_of_toNat_eq (by rw [hall.count, hall.len, hlen])
  have hlast : t.rxValue c = .ok (t.discard .checksum) := by
    rw [rxValue_of_body t c (hall.state ▸ hbody), bodyValue_of_invalid t c hcount (hall.sum ▸ hsum)]
  exact ⟨_, (feed_append ht).trans (feed_cons hlast), rfl, hall.corr, hall.recs⟩

/-- A frame with a checksum that does not match is given up, whatever its type (R117, R121, R122). -/
theorem feed_frame_of_mismatch {body : List Byte} {c : Byte} (hs : s.rx.state = .length1) (hv : s.SessionValid)
    (h0 : body ≠ []) (hn : body.length ≤ 0xFFFF) (hsum : bodySum body + c ≠ 0xFF) :
    ∃ t, s.feed (hiByte (BitVec.ofNat 16 body.length) :: loByte (BitVec.ofNat 16 body.length) :: (body ++ [c])) =
      .ok t ∧ t.rx.state = .frameMark ∧ t.corr = s.corr ∧ t.recs = s.recs := by
  have hpos : 0 < body.length := List.length_pos_iff.mpr h0
  rw [feed_length hs (by bv_omega)]
  cases body with
  | nil => exact absurd rfl h0
  | cons v vs =>
    obtain ⟨t, ht, hread⟩ := typeByte_reads (s := s.atTypeOf (BitVec.ofNat 16 (v :: vs).length)) v hv
    have hfirst := (rxValue_of_frameType (s.atTypeOf (BitVec.ofNat 16 (v :: vs).length)) v rfl).trans ht
    have hcorr : t.corr = s.corr := by rw [hread.kept]; rfl
    have hrecs : t.recs = s.recs := by rw [hread.kept]; rfl
    rw [List.cons_append, feed_cons hfirst]
    obtain hmark | ⟨hbody, k, hk⟩ := hread.next
    · exact ⟨t, feed_of_frameMark _ hmark, hmark, hcorr, hrecs⟩
    · have hlen : vs.length = t.rx.len.toNat := by
        rw [hread.len]
        simp only [State.atTypeOf, List.length_cons] at hn ⊢
        bv_omega
      obtain ⟨u, hu, hmark, hcorr', hrecs'⟩ :=
        feed_of_mismatch hbody hread.count hk hread.buffer hlen (by rwa [hread.sum])
      exact ⟨u, hu, hmark, hcorr'.trans hcorr, hrecs'.trans hrecs⟩

/-- Settles O41: the changed byte changes the sum, so the checksum of the frame does not match. -/
theorem checksumRejectsABitFlip : Obligations.ChecksumRejectsABitFlip := by
  intro s body k n v hready h0 hlen hv hk hvalue hn _ _
  obtain ⟨i, rfl⟩ := Nat.exists_eq_add_of_le' hk
  have hvalue : (body ++ [checksumOf (bodySum body)])[i]? = some v := hvalue
  obtain hnil | ⟨body', c, hset⟩ :=
    List.eq_nil_or_concat ((body ++ [checksumOf (bodySum body)]).set i (v ^^^ (1 <<< n)))
  · simp at hnil
  have hlen' : body'.length = body.length := by simpa using (congrArg List.length hset).symm
  have h0' : body' ≠ [] := List.ne_nil_of_length_pos (hlen' ▸ List.length_pos_iff.mpr h0)
  have hsum : bodySum body' + c ≠ 0xFF := by
    intro hsum
    have hflip := bodySum_set (v ^^^ (1 <<< n)) hvalue
    rw [hset, List.concat_eq_append, bodySum_append, bodySum, bodySum, add_zero, hsum, bodySum_checksum] at hflip
    exact xor_bit_ne v hn (add_left_cancel hflip).symm
  obtain ⟨t, ht, hmark, hcorr, hrecs⟩ := feed_frame_of_mismatch (s := s.resync) (by simp)
    (by simpa [State.SessionValid, State.recvRecord] using hv) h0' (hlen' ▸ hlen) hsum
  rw [hlen', ← List.concat_eq_append, ← hset] at ht
  exact ⟨t, runOps_frame hready ht, hmark, by simpa using hcorr, by simpa using hrecs,
    ((listening_resync hready).feed ht).ready.1⟩

end Sys2Proof.Machine
end

section
/-! A 0x90 frame for a pending session (R116, R120, R121, R127). -/

namespace Sys2Proof.Machine

variable {s t : State} {r : Ref}

/-- The Receiver has just accepted a frame for the session of `r`, whose buffer can be stored to (R116). -/
structure State.ForSession (s : State) (r : Ref) : Prop where
  state : s.rx.state = .dataRequested
  type : s.rx.type = 0x90
  count : s.rx.count = 0
  sess : s.corr.sess = some r
  wf : Memory.wf s.mem = true
  valid : ∀ j : Nat, j < s.rx.limit.toNat → addrValid s.params ((s.recvRecord r).bufPtr + j) = true

theorem State.ForSession.isBody (h : s.ForSession r) : s.rx.state.IsBody := by
  rw [h.state]; trivial

/-- `t` is `s` after the first body bytes `bytes` of a frame for the session of `r`: its header is stored, and its
payload stands in the buffer up to the limit (R119, R120). -/
structure State.Stored (s : State) (r : Ref) (bytes : List Byte) (t : State) : Prop
    extends s.Collected bytes t where
  header : t.rx.hdr.toList.take bytes.length = bytes.take 11
  wf : Memory.wf t.mem = true
  payload : ∀ (j : Nat) (v : Byte), bytes[11 + j]? = some v → j < s.rx.limit.toNat →
    Memory.read t.mem ((s.recvRecord r).bufPtr + j) = v

theorem State.ForSession.stored_nil (h : s.ForSession r) : s.Stored r [] s where
  toCollected := .nil h.count
  header := rfl
  wf := h.wf
  payload := nofun

theorem take_set_succ {l : List Byte} {i : Nat} (v : Byte) (hi : i < l.length) :
    (l.set i v).take (i + 1) = l.take i ++ [v] := by
  rw [List.take_succ_eq_append_getElem (by simpa using hi), List.take_set_of_le le_rfl, List.getElem_set_self]

/-- Past the header a further byte leaves it as it is. -/
theorem State.Stored.header_snoc {bytes : List Byte} (h : s.Stored r bytes t) (hle : 11 ≤ bytes.length) (v : Byte) :
    t.rx.hdr.toList.take (bytes ++ [v]).length = (bytes ++ [v]).take 11 := by
  have hlen : t.rx.hdr.toList.length = 11 := t.rx.hdr.length_toList
  rw [List.take_append_of_le_length hle, ← h.header, List.take_of_length_le (by simp; omega),
    List.take_of_length_le (by omega)]

theorem State.Stored.headerByte {bytes : List Byte} (h : s.Stored r bytes t) (hlt : bytes.length < s.rx.len.toNat)
    (hhdr : bytes.length < 11) (v : Byte) : s.Stored r (bytes ++ [v]) ((t.storeHeader v).countByte v) where
  toCollected := h.snoc .header hlt
  header := by
    have hset : ((t.storeHeader v).countByte v).rx.hdr.toList = t.rx.hdr.toList.set bytes.length v := by
      simp [h.count]
    rw [hset, List.length_append, List.length_singleton, take_set_succ v (by simpa using hhdr), h.header,
      List.take_of_length_le (by omega), List.take_of_length_le (by simp; omega)]
  wf := h.wf
  payload j w hw _ := by
    rw [List.getElem?_eq_none (by simp; omega)] at hw
    cases hw

/-- The payload byte numbered `bytes.length - 11` is the last of `bytes ++ [v]`. -/
theorem getElem?_snoc_payload {bytes : List Byte} {v w : Byte} {j : Nat} (hle : 11 ≤ bytes.length)
    (hw : (bytes ++ [v])[11 + j]? = some w) : bytes[11 + j]? = some w ∧ j < bytes.length - 11 ∨
      w = v ∧ j = bytes.length - 11 := by
  obtain hlt | hge := lt_or_ge (11 + j) bytes.length
  · exact .inl ⟨by rwa [List.getElem?_append_left hlt] at hw, by omega⟩
  · rw [List.getElem?_append_right hge, List.getElem?_singleton] at hw
    split at hw
    · cases hw; exact .inr ⟨rfl, by omega⟩
    · cases hw

theorem State.Stored.payloadByte {bytes : List Byte} (h : s.Stored r bytes t) (hs : s.ForSession r)
    (hlt : bytes.length < s.rx.len.toNat) (hle : 11 ≤ bytes.length) (hlim : bytes.length - 11 < s.rx.limit.toNat)
    (v : Byte) : s.Stored r (bytes ++ [v]) (State.countByte { t with
      mem := Memory.write t.mem ((s.recvRecord r).bufPtr + (bytes.length - 11)) v } v) where
  toCollected := by
    have hcase : BodyCase t v _ := .session r 11 (h.state.trans hs.state) (by rw [h.type, hs.type]; rfl)
      (by rw [h.corr, hs.sess]) (by rw [h.recvRecord, h.params, h.count]; exact hs.valid _ hlim)
    rw [h.recvRecord, h.count] at hcase
    exact h.snoc hcase hlt
  header := h.header_snoc hle v
  wf := Memory.write_wf _ _ _ h.wf
  payload j w hw hj := by
    obtain ⟨hold, hlt⟩ | ⟨rfl, rfl⟩ := getElem?_snoc_payload hle hw
    · exact (Memory.read_write_other _ _ _ _ (by omega)).trans (h.payload j w hold hj)
    · exact Memory.read_write_same _ _ _ h.wf

theorem State.Stored.pastLimit {bytes : List Byte} (h : s.Stored r bytes t) (hlt : bytes.length < s.rx.len.toNat)
    (hle : 11 ≤ bytes.length) (hlim : s.rx.limit.toNat ≤ bytes.length - 11) (v : Byte) :
    s.Stored r (bytes ++ [v]) (t.countByte v) where
  toCollected := h.snoc .ignored hlt
  header := h.header_snoc hle v
  wf := h.wf
  payload j w hw hj := by
    obtain ⟨hold, -⟩ | ⟨-, rfl⟩ := getElem?_snoc_payload hle hw
    · exact h.payload j w hold hj
    · omega

/-- One body byte of the frame: a header byte, a payload byte for the buffer, or one past the limit. -/
theorem State.ForSession.bodyByte (hs : s.ForSession r) (bytes : List Byte) (t : State) (v : Byte)
    (h : s.Stored r bytes t) (hlt : bytes.length < s.rx.len.toNat) :
    ∃ u, t.rxValue v = .ok u ∧ s.Stored r (bytes ++ [v]) u := by
  have hk : headerSize t.rx.type = some 11 := by rw [h.type, hs.type]; rfl
  have hstate : t.rx.state = .dataRequested := h.state.trans hs.state
  rw [h.rxValue v hs.isBody hlt]
  obtain hhdr | hle := lt_or_ge bytes.length 11
  · exact ⟨_, bodyByte_of_header hk (h.count ▸ hhdr), h.headerByte hlt hhdr v⟩
  rw [bodyByte_of_dataRequested hstate hk (h.count ▸ hle), h.count]
  obtain hlim | hlim := lt_or_ge (bytes.length - 11) s.rx.limit.toNat
  · have hvalid : addrValid t.params ((t.recvRecord r).bufPtr + (bytes.length - 11)) = true := by
      rw [h.recvRecord, h.params]; exact hs.valid _ hlim
    rw [payloadToSession_of_valid (h.limit ▸ hlim) (h.corr ▸ hs.sess) hvalid, h.recvRecord]
    exact ⟨_, rfl, h.payloadByte hs hlt hle hlim v⟩
  · rw [payloadToSession_of_limit (h.limit ▸ hlim)]
    exact ⟨_, rfl, h.pastLimit hlt hle hlim v⟩

/-! The completion. -/

/-- The session of `r` ended with the frame just received (R127). -/
def State.delivered (s : State) (r : Ref) : State :=
  ({ s.setRecvRecord r { s.recvRecord r with
      addr64 := rxAddr64 s.rx.hdr, addr16 := rxAddr16 s.rx.hdr, length := s.rx.limit } with
    corr := { s.corr with sessSuccess := true, sessPending := false } } : State).setRxState .frameMark

theorem complete_of_dataRequested (hs : s.rx.state = .dataRequested) (hr : s.corr.sess = some r) :
    (s.complete.andThen fun t => .ok (t.setRxState .frameMark)) = .ok (s.delivered r) := by
  rw [State.complete, hs]
  dsimp only
  rw [State.completeDelivery, hr]
  rfl

theorem recvRecord_delivered (hw : tableWf RecvRecord.zero s.recs.recvs = true) :
    (s.delivered r).recvRecord r = { s.recvRecord r with
      addr64 := rxAddr64 s.rx.hdr, addr16 := rxAddr16 s.rx.hdr, length := s.rx.limit } :=
  tableGet_set_same RecvRecord.zero _ 0 _ _ hw

/-- A frame accepted for the session of `r`, with a checksum that matches, is stored and delivered (R127). -/
theorem State.ForSession.feed {bytes : List Byte} {c : Byte} (hs : s.ForSession r)
    (hlen : bytes.length = s.rx.len.toNat) (hsum : s.rx.sum + bodySum bytes + c = 0xFF) :
    ∃ t, s.feed (bytes ++ [c]) = .ok (t.delivered r) ∧ s.Stored r bytes t := by
  obtain ⟨t, ht, hall⟩ := feed_induct hs.bodyByte hs.stored_nil (vs := bytes) (by simp [hlen])
  rw [List.nil_append] at hall
  have hcount : t.rx.count = t.rx.len := BitVec.eq_of_toNat_eq (by rw [hall.count, hall.len, hlen])
  have hlast : t.rxValue c = .ok (t.delivered r) := by
    rw [rxValue_of_body t c (hall.state ▸ hs.isBody), bodyValue_of_valid t c hcount (hall.sum ▸ hsum),
      complete_of_dataRequested (hall.state.trans hs.state) (hall.corr ▸ hs.sess)]
  exact ⟨t, (feed_append ht).trans (feed_cons hlast), hall⟩

/-! The whole frame. -/

/-- The Receiver once a frame of the type byte 0x90 and `n` further body bytes is accepted for the session of `r`. -/
def State.acceptFrame (s : State) (n : Nat) (r : Ref) : State := (s.atTypeOf (BitVec.ofNat 16 (n + 1))).acceptForSession r

theorem acceptFrame_len {n : Nat} (hn : n + 1 ≤ 0xFFFF) : (s.acceptFrame n r).rx.len.toNat = n := by
  change (BitVec.ofNat 16 (n + 1) - 1).toNat = n
  bv_omega

theorem acceptFrame_limit {n : Nat} (h11 : 11 ≤ n) (hn : n + 1 ≤ 0xFFFF) :
    (s.acceptFrame n r).rx.limit.toNat = min (n - 11) (s.recvRecord r).cap.toNat := by
  have hfull : (BitVec.ofNat 16 (n + 1) - 1 - 11 : U16).toNat = n - 11 := by bv_omega
  exact (minLen_toNat _ _).trans (by rw [← hfull]; rfl)

/-- A 0x90 frame that is accepted for a pending session is stored and delivered (R116, R127). -/
theorem feed_frameValues_of_session {body : List Byte} (hs : s.rx.state = .length1)
    (hp : s.corr.sessPending = true) (hr : s.corr.sess = some r) (hw : Memory.wf s.mem = true)
    (h11 : 11 ≤ body.length) (hn : body.length + 1 ≤ 0xFFFF)
    (hv : ∀ j : Nat, j < min (body.length - 11) (s.recvRecord r).cap.toNat →
      addrValid s.params ((s.recvRecord r).bufPtr + j) = true) :
    ∃ t, s.feed (frameValues (0x90 :: body)) = .ok (t.delivered r) ∧
      (s.acceptFrame body.length r).Stored r body t := by
  have hlen := acceptFrame_len (s := s) (r := r) hn
  have hsession : (s.acceptFrame body.length r).ForSession r :=
    ⟨rfl, rfl, rfl, hr, hw, fun j hj => hv j (acceptFrame_limit (s := s) h11 hn ▸ hj)⟩
  have htype : (s.atTypeOf (BitVec.ofNat 16 (body.length + 1))).rxValue 0x90 = .ok (s.acceptFrame body.length r) :=
    acceptReceivePacket_of_session (h11.trans_eq hlen.symm) hp hr
  obtain ⟨t, ht, hstored⟩ := hsession.feed (c := checksumOf (bodySum (0x90 :: body)))
    hlen.symm (add_sub_cancel _ _)
  refine ⟨t, ?_, hstored⟩
  rw [frameValues, List.length_cons, feed_length hs (by bv_omega), List.cons_append, feed_cons htype, ht]

/-- Settles O40: without its flow bytes the script is the frame, whose values are stored and then delivered. -/
theorem receiverDeliversTheFrame : Obligations.ReceiverDeliversTheFrame := by
  intro s r header payload raw hready hp hr hmem hrecs hheader hlen hv hraw
  have hbody : (header ++ payload).length = 11 + payload.length := by rw [List.length_append, hheader]
  have hsub : (header ++ payload).length - 11 = payload.length := by omega
  have h11 : 11 ≤ (header ++ payload).length := by omega
  have hn : (header ++ payload).length + 1 ≤ 0xFFFF := by omega
  have hrecord : s.resync.recvRecord r = s.recvRecord r := by rw [State.recvRecord, State.resync_recs]; rfl
  obtain ⟨t, ht, hstored⟩ := feed_frameValues_of_session (s := s.resync) (r := r) (by simp) (by simpa using hp)
    (by simpa using hr) (by simpa using hmem) h11 hn (by simpa only [State.resync_params, hrecord, hsub] using hv)
  have hlimit := acceptFrame_limit (s := s.resync) (r := r) h11 hn
  rw [hsub, hrecord] at hlimit
  have hfault : (t.delivered r).fault = none := ((listening_resync hready).feed ht).ready.1
  have hframe : runOps (pushAll (wireFrame (0x90 :: (header ++ payload)))) s = .next (t.delivered r) :=
    runOps_frame hready ht
  have hrun := runOps_pushAll_of_filter hready hfault (hraw ▸ hframe)
  have htable : tableWf RecvRecord.zero t.recs.recvs = true := by
    rw [hstored.recs]; simpa [State.acceptFrame, State.acceptForSession, State.atTypeOf] using hrecs
  have hhdr : t.rx.hdr.toList = header := by
    have htake := hstored.header
    rwa [List.take_of_length_le (by simpa using h11), List.take_left' hheader] at htake
  refine ⟨t.delivered r, hrun, rfl, rfl, rfl, hhdr, ?_, ?_, ?_, fun j v hj hpay => ?_⟩
  · rw [recvRecord_delivered htable]; rfl
  · rw [recvRecord_delivered htable]; rfl
  · rw [recvRecord_delivered htable, ← hlimit, ← hstored.limit]
  · have hj' : j < payload.length := (List.getElem?_eq_some_iff.mp hpay).1
    have hread := hstored.payload j v (by rw [List.getElem?_append_right (by omega), hheader]; simpa using hpay)
      (hlimit ▸ lt_min hj' hj)
    rw [← hrecord]
    exact hread

end Sys2Proof.Machine
end

section
/-! One PULL in each state of the Transmitter (R91 to R98). -/

namespace Sys2Proof.Machine

variable {s : State}

/-! The body of PULL, an equation per branch. -/

theorem pullBody_of_held (h : s.tx.escPending = true) : s.pullBody = .ok s.pullHeld := if_pos h

theorem pullBody_of_idle (h : s.tx.escPending = false) (hs : s.tx.state = .idle) :
    s.pullBody = .ok (s.emit none) := by
  rw [State.pullBody, if_neg (by simp [h]), hs]

theorem pullBody_of_frameMark (h : s.tx.escPending = false) (hs : s.tx.state = .frameMark) :
    s.pullBody = .ok s.pullFrameMark := by
  rw [State.pullBody, if_neg (by simp [h]), hs]

theorem pullBody_of_length1 (h : s.tx.escPending = false) (hs : s.tx.state = .length1) :
    s.pullBody = .ok s.pullLength1 := by
  rw [State.pullBody, if_neg (by simp [h]), hs]

theorem pullBody_of_length2 (h : s.tx.escPending = false) (hs : s.tx.state = .length2) :
    s.pullBody = .ok s.pullLength2 := by
  rw [State.pullBody, if_neg (by simp [h]), hs]

theorem pullBody_of_header (h : s.tx.escPending = false) (hs : s.tx.state = .header) :
    s.pullBody = s.pullHeader := by
  rw [State.pullBody, if_neg (by simp [h]), hs]

theorem pullBody_of_data (h : s.tx.escPending = false) (hs : s.tx.state = .data) : s.pullBody = s.pullData := by
  rw [State.pullBody, if_neg (by simp [h]), hs]

theorem pullBody_of_checksum (h : s.tx.escPending = false) (hs : s.tx.state = .checksum) :
    s.pullBody = .ok s.pullChecksum := by
  rw [State.pullBody, if_neg (by simp [h]), hs]

theorem pullHeader_of_getElem? {raw : Byte} (h : s.tx.hdr[s.tx.idx.toNat]? = some raw) :
    s.pullHeader = .ok (State.txEsc { s with tx := s.tx.afterHeaderByte raw } raw) := by
  rw [State.pullHeader, h]

theorem pullData_of_valid {raw : Byte} (hv : addrValid s.params (s.tx.pptr + s.tx.idx.toNat) = true)
    (hraw : raw = Memory.read s.mem (s.tx.pptr + s.tx.idx.toNat)) :
    s.pullData = .ok (State.txEsc { s with tx := s.tx.afterPayloadByte raw } raw) := by
  rw [State.pullData, (s.memRead_eq_some _ _).mpr ⟨hv, hraw⟩]

theorem pullData_of_invalid (hv : addrValid s.params (s.tx.pptr + s.tx.idx.toNat) = false) :
    s.pullData = .raise (.mem (s.tx.pptr + s.tx.idx.toNat)) := by
  rw [State.pullData, (s.memRead_eq_none _).mpr hv]

/-- A payload byte moves the Transmitter to Checksum when it is the last, and nowhere else (R97). -/
theorem TxRegs.afterPayloadByte_of_data {x : TxRegs} (hs : x.state = .data) (raw : Byte) :
    x.afterPayloadByte raw = { x with
      sum := x.sum + raw, idx := x.idx + 1, state := if x.idx + 1 = x.plen then .checksum else .data } := by
  unfold TxRegs.afterPayloadByte
  split
  · rfl
  · rw [← hs]

/-! The PULL. -/

/-- A PULL whose body comes to its end. -/
theorem execPull_of_ok {t : State} (h : s.Ready) (ht : s.pullBody = .ok t) : exec .pull s = .next t := by
  rw [execPull_of_ready s h, ht, settle_ok]

/-- Settles O10: the held byte goes before the byte of `tx_state`. -/
theorem pullSendsHeldByteFirst : Obligations.PullSendsHeldByteFirst :=
  fun _ hready hheld => execPull_of_ok hready (pullBody_of_held hheld)

/-- Settles O11. -/
theorem pullInIdleReturnsNone : Obligations.PullInIdleReturnsNone :=
  ⟨rfl, fun _ hready hrested hs => execPull_of_ok hready (pullBody_of_idle hrested hs)⟩

/-- Settles O12. -/
theorem pullSendsTheDelimiter : Obligations.PullSendsTheDelimiter :=
  fun _ hready hrested hs => execPull_of_ok hready (pullBody_of_frameMark hrested hs)

/-- Settles O13, in Length1 and in Length2. -/
theorem pullSendsTheLength : Obligations.PullSendsTheLength :=
  ⟨fun _ hready hrested hs => execPull_of_ok hready (pullBody_of_length1 hrested hs),
    fun _ hready hrested hs => execPull_of_ok hready (pullBody_of_length2 hrested hs)⟩

/-- Settles O14: the byte is the one at `tx_idx`, whether or not it is the last of the header. -/
theorem pullSendsAHeaderByte : Obligations.PullSendsAHeaderByte := by
  intro s raw hready hrested hs hraw
  exact execPull_of_ok hready ((pullBody_of_header hrested hs).trans (pullHeader_of_getElem? hraw))

/-- Settles O15: by whether the address of the payload byte is valid. -/
theorem pullSendsAPayloadByte : Obligations.PullSendsAPayloadByte := by
  refine ⟨fun s raw hready hrested hs hv hraw => ?_, fun s hready hrested hs hv => ?_⟩
  · rw [← TxRegs.afterPayloadByte_of_data hs]
    exact execPull_of_ok hready ((pullBody_of_data hrested hs).trans (pullData_of_valid hv hraw))
  · rw [execPull_of_ready s hready, pullBody_of_data hrested hs, pullData_of_invalid hv, settle_raise]
    rfl

/-- A special value takes two PULLs: the first holds its second byte, the second sends that and leaves the
Transmitter as the value does (R72, R92, R99). -/
theorem runOps_pull_pull_of_special {x : TxRegs} {raw : Byte} (h : s.Ready) (hraw : isSpecial raw = true)
    (hp : exec .pull s = .next (State.txEsc { s with tx := x } raw)) :
    runOps [.pull, .pull] s = .next { s with
      tx := { x with escPending := false, escByte := escapeMask raw }
      out := { s.out with pulled := some (escapeMask raw) :: some 0x7D :: s.out.pulled } } := by
  rw [State.txEsc_special _ _ hraw] at hp
  have hheld := pullSendsHeldByteFirst (State.sendEscaped { s with tx := x } (escapeMask raw)) h rfl
  exact (runOps_cons hp).trans (runOps_cons hheld)

/-- Settles O16: Idle is reached on the call that sends the checksum, before the held byte of a special one. -/
theorem pullSendsTheChecksum : Obligations.PullSendsTheChecksum := by
  intro s hready hrested hs
  have hpull : exec .pull s = .next s.pullChecksum := execPull_of_ok hready (pullBody_of_checksum hrested hs)
  exact ⟨hpull, fun hspecial => runOps_pull_pull_of_special hready hspecial hpull⟩

end Sys2Proof.Machine
end

section
/-! The association state, which only the completion of a modem status changes (R124, R155). -/

namespace Sys2Proof.Machine

variable {s t : State}

/-- `s` stands at the checksum byte of a modem-status frame, and `t` has the association state that its status
sets (R124). -/
def State.SetsAssoc (s t : State) : Prop :=
  s.rx.state = .modemStatus ∧ s.rx.len.toNat ≤ s.rx.count.toNat ∧
    (s.rx.hdr[0] = 0x02 ∧ t.corr.assoc = .associated ∨
      s.rx.hdr[0] = 0x03 ∧ t.corr.assoc = .notAssociated ∧ t.corr.sessPending = false)

theorem checksumByte_assoc {v : Byte} (hs : s.rx.state = .modemStatus) (hc : s.rx.len.toNat ≤ s.rx.count.toNat)
    (h : s.checksumByte v = .ok t) : t.corr.assoc = s.corr.assoc ∨ s.SetsAssoc t := by
  unfold State.checksumByte at h
  split at h
  next =>
    rw [State.complete, hs] at h
    cases h
    unfold State.completeModemStatus
    split_ifs with hjoined hleft
    · exact .inr ⟨hs, hc, .inl ⟨hjoined, rfl⟩⟩
    · exact .inr ⟨hs, hc, .inr ⟨hleft, rfl, rfl⟩⟩
    · exact .inl rfl
  next =>
    cases h
    exact .inl rfl

theorem bodyValue_assoc {v : Byte} (hs : s.rx.state = .modemStatus) (h : s.bodyValue v = .ok t) :
    t.corr.assoc = s.corr.assoc ∨ s.SetsAssoc t := by
  unfold State.bodyValue at h
  split at h
  next =>
    obtain ⟨-, -, -, -, -, -, hcorr, -⟩ := (bodyByte_case h).kept
    exact .inl (congrArg Corr.assoc hcorr)
  next hc => exact checksumByte_assoc hs (not_lt.mp hc) h

theorem pushBody_assoc {b : Byte} (h : s.pushBody b = .ok t) : t.corr.assoc = s.corr.assoc ∨ s.SetsAssoc t := by
  by_cases hs : s.rx.state = .modemStatus
  · unfold State.pushBody at h
    split_ifs at h
    · cases h; exact .inl rfl
    · cases h; exact .inl (congrArg Corr.assoc s.resync_corr)
    · cases h; exact .inl rfl
    · have hbody : s.escapeDone.rx.state.IsBody := by simp [hs, RxState.IsBody]
      exact bodyValue_assoc (s := s.escapeDone) hs ((rxValue_of_body _ _ hbody).symm.trans h)
  · exact .inl ((pushBody_effect h).assoc_eq hs)

/-- Of all moves only a PUSH changes the association state, and only at the checksum byte of a modem status. -/
theorem Move.assoc (h : Move s t) : t.corr.assoc = s.corr.assoc ∨ s.SetsAssoc t := by
  cases h with
  | push b _ ok => exact pushBody_assoc ok
  | pull _ ok =>
    obtain ⟨x, o, -, rfl⟩ := (pullBody_case ok).pullsTo
    exact .inl rfl
  | _ => exact .inl rfl

/-- Settles O55: every step makes a move, and only the completion of a modem status changes the association. -/
theorem onlyModemStatusChangesAssociation : Obligations.OnlyModemStatusChangesAssociation := by
  intro s t h hne
  obtain ⟨held, inputs, hm⟩ := step_move h
  obtain hkept | hset := hm.assoc
  · exact absurd hkept hne
  · exact hset

end Sys2Proof.Machine
end

section
/-! Raw control bytes, frame search and the length (R104 to R110). -/

namespace Sys2Proof.Machine

variable {s t : State}

/-- A PUSH of a data byte whose value comes to its end. -/
theorem execPush_of_ok {b v : Byte} (h : s.Receives b v) (ht : s.escapeDone.rxValue v = .ok t) :
    exec (.push b) s = .next t := by
  rw [execPush_of_receives s b v h, ht, settle_ok]

/-- Settles O21, each byte by PUSH and by its row. -/
theorem flowAndEscapeBytes : Obligations.FlowAndEscapeBytes :=
  ⟨fun s h =>
      ⟨deliver_of_ready s _ _ h, deliver_of_ready s _ _ h, exec_push_of_flow h rfl, exec_push_of_flow h rfl⟩,
    fun s h => ⟨deliver_of_ready s _ _ h, execPush_of_ready s 0x7D h⟩⟩

/-- A raw 0x7E, with the label that depends on the state it leaves (R105, R160). -/
theorem resync_eq (s : State) : s.resync = { s with
    rx := { s.rx with state := .length1, esc := false, count := 0, sum := 0 }
    out := { s.out with discards :=
      if s.rx.state = .frameMark ∨ s.rx.state = .length1 then s.out.discards else .resync :: s.out.discards } } := by
  unfold State.resync
  cases hs : s.rx.state <;> rfl

/-- Settles O22, by PUSH and by the row of the delimiter. -/
theorem delimiterResynchronises : Obligations.DelimiterResynchronises := by
  rintro s t h rfl
  rw [← resync_eq s]
  exact ⟨deliver_of_ready s _ _ h, execPush_of_ready s 0x7E h⟩

theorem rxValue_of_frameMark (v : Byte) (hs : s.rx.state = .frameMark) : s.rxValue v = .ok s := by
  rw [State.rxValue, hs]

theorem rxValue_of_length1 (v : Byte) (hs : s.rx.state = .length1) : s.rxValue v = .ok (s.lengthHigh v) := by
  rw [State.rxValue, hs]

theorem rxValue_of_length2 (v : Byte) (hs : s.rx.state = .length2) : s.rxValue v = .ok (s.lengthLow v) := by
  rw [State.rxValue, hs]

/-- In frame search any raw byte but 0x7E touches the escape flag at most (R104, R106, R108). -/
theorem pushBody_of_frameMark {b : Byte} (hs : s.rx.state = .frameMark) (hb : b ≠ 0x7E) :
    ∃ e, s.pushBody b = .ok { s with rx := { s.rx with esc := e } } := by
  unfold State.pushBody
  split_ifs
  · exact ⟨s.rx.esc, rfl⟩
  · exact ⟨true, rfl⟩
  · exact ⟨false, rxValue_of_frameMark (s := s.escapeDone) _ hs⟩

/-- Settles O24: a value is ignored, and any raw byte but 0x7E touches the escape flag at most. -/
theorem frameSearchIgnoresData : Obligations.FrameSearchIgnoresData := by
  refine ⟨fun s b v h hs => ?_, fun s t b h hs hb ht => ?_⟩
  · have hvalue : s.escapeDone.rxValue v = .ok s.escapeDone := rxValue_of_frameMark v hs
    exact ⟨by rw [execRxData_of_receives s b v h, hvalue]; rfl, execPush_of_ok h hvalue⟩
  · obtain ⟨e, he⟩ := pushBody_of_frameMark hs hb
    rw [execPush_of_ready s b h, he] at ht
    cases ht
    exact hs

/-- The low byte completes a declared length that is not 0 (R110). -/
theorem lengthLow_of_ne {high low : Byte} (hlen : s.rx.len = pair high 0) (h0 : pair high low ≠ 0) :
    s.lengthLow low = s.atTypeOf (pair high low) := by
  unfold State.lengthLow
  simp only [hlen, pair_or_pair, if_neg h0]
  rfl

/-- A declared length of 0 is discarded (R110). -/
theorem lengthLow_of_zero (hlen : s.rx.len = 0) : s.lengthLow 0 = s.discard .len0 := by
  unfold State.lengthLow
  rw [hlen]
  rfl

/-- Settles O25: the high byte, then the low byte of a length that is not 0, or that is. -/
theorem lengthBytesAreAssembled : Obligations.LengthBytesAreAssembled := by
  refine ⟨fun s b v h hs => ?_, fun s b high low declared h hs hlen hdecl h0 => ?_, fun s b h hs hlen => ?_⟩
  · exact execPush_of_ok h (rxValue_of_length1 (s := s.escapeDone) v hs)
  · subst hdecl
    have hlow : s.escapeDone.lengthLow low = s.escapeDone.atTypeOf (pair high low) :=
      lengthLow_of_ne (s := s.escapeDone) hlen h0
    exact execPush_of_ok h ((rxValue_of_length2 (s := s.escapeDone) low hs).trans (congrArg Res.ok hlow))
  · have hlow : s.escapeDone.lengthLow 0 = s.escapeDone.discard .len0 := lengthLow_of_zero hlen
    exact execPush_of_ok h ((rxValue_of_length2 (s := s.escapeDone) 0 hs).trans (congrArg Res.ok hlow))

end Sys2Proof.Machine
end

section
/-! The rows of the received types, at the type byte (R111 to R117). -/

namespace Sys2Proof.Machine

variable {s : State}

/-- The row of a received type, at the type byte. -/
theorem exec_decodeType_of_frameType (v : Byte) (hlive : s.Live) (hs : s.rx.state = .frameType) :
    exec (decodeType v) s = settle s (s.typeByte v) := by
  rw [exec_decodeType s v hlive, rxValue_of_frameType s v hs]

/-- Settles O26, by whether a body byte follows the type. -/
theorem modemStatusTypeByte : Obligations.ModemStatusTypeByte := by
  intro s hlive hs
  have hrow : exec .rxModemStatus s = .next (s.startBody 0x8A).acceptModemStatus :=
    exec_decodeType_of_frameType 0x8A hlive hs
  exact ⟨fun hl => hrow.trans (congrArg _ (if_neg (not_lt.mpr hl))), fun hl => hrow.trans (congrArg _ (if_pos hl))⟩

/-! A response is accepted while it is expected and long enough (R112, R114, R115): the shape that 0x8B and 0x88
share. -/

theorem response_of_expected {u : State} {e x : Expect} {l n : Nat} (he : e = x) (hl : n ≤ l) :
    (if e ≠ x then s.discard .unexpected else if l < n then s.discard .short else u) = u := by
  rw [if_neg (not_not.mpr he), if_neg (not_lt.mpr hl)]

theorem response_of_refused {u : State} {e x : Expect} {l n : Nat} (h : e ≠ x ∨ l < n) :
    (if e ≠ x then s.discard .unexpected else if l < n then s.discard .short else u) =
      s.discard (if e = x then .short else .unexpected) := by
  by_cases he : e = x
  · rw [if_neg (not_not.mpr he), if_pos (h.resolve_left (not_not.mpr he)), if_pos he]
  · rw [if_pos he, if_neg he]

/-- Settles O27: accepted while expected and long enough, else refused. -/
theorem transmitStatusTypeByte : Obligations.TransmitStatusTypeByte := by
  intro s hlive hs
  have hrow : exec .rxTransmitStatus s = .next (s.startBody 0x8B).acceptTransmitStatus :=
    exec_decodeType_of_frameType 0x8B hlive hs
  exact ⟨fun he hl => hrow.trans (congrArg _ (response_of_expected he hl)),
    fun h => hrow.trans (congrArg _ (response_of_refused h))⟩

/-- Settles O28, in the shape of O27. -/
theorem atResponseTypeByte : Obligations.AtResponseTypeByte := by
  intro s hlive hs
  have hrow : exec .rxAtResponse s = .next (s.startBody 0x88).acceptAtResponse :=
    exec_decodeType_of_frameType 0x88 hlive hs
  exact ⟨fun he hl => hrow.trans (congrArg _ (response_of_expected he hl)),
    fun h => hrow.trans (congrArg _ (response_of_refused h))⟩

theorem acceptReceivePacket_of_scratch (hl : 11 ≤ s.rx.len.toNat) (hp : s.corr.sessPending = false) :
    (s.startBody 0x90).acceptReceivePacket = .ok { s.startBody 0x90 with rx := { (s.startBody 0x90).rx with
      full := s.rx.len - 11, limit := minLen (s.rx.len - 11) s.params.scratchCapacity, state := .data } } := by
  unfold State.acceptReceivePacket
  simp only [State.startBody_rx, State.startBody_corr, hp, Bool.false_eq_true, if_false, if_neg (not_lt.mpr hl)]
  rfl

/-- The store limit of a frame whose header fits (R116). -/
theorem minLen_payload_toNat {len : U16} (cap : U16) (hl : 11 ≤ len.toNat) :
    (minLen (len - 11) cap).toNat = min (len.toNat - 11) cap.toNat := by
  have hfull : (len - 11).toNat = len.toNat - 11 := by bv_omega
  rw [minLen_toNat, hfull]

/-- Settles O29: for a pending session, for scratch, and for a frame too short for its header. -/
theorem receivePacketTypeByte : Obligations.ReceivePacketTypeByte := by
  have hrow (s : State) (hlive : s.Live) (hs : s.rx.state = .frameType) :
      exec .rxReceivePacket s = settle s (s.startBody 0x90).acceptReceivePacket :=
    exec_decodeType_of_frameType 0x90 hlive hs
  refine ⟨fun s r hlive hs hl hp hr => ?_, fun s hlive hs hl hp => ?_, fun s hlive hs hl => ?_⟩
  · refine ⟨_, minLen_payload_toNat _ hl, ?_⟩
    rw [hrow s hlive hs, acceptReceivePacket_of_session hl hp hr]
    rfl
  · refine ⟨_, minLen_payload_toNat _ hl, ?_⟩
    rw [hrow s hlive hs, acceptReceivePacket_of_scratch hl hp]
    rfl
  · exact (hrow s hlive hs).trans (congrArg (settle s) (if_pos hl))

theorem typeByte_of_wf {v : Byte} (h : (Instr.rxOtherType v).wf = true) :
    s.typeByte v = .ok ((s.startBody v).discard .type) := by
  obtain ⟨h88, h8a, h8b, h90⟩ := (wf_rxOtherType_iff v).mp h
  rw [State.typeByte, if_neg h8a, if_neg h8b, if_neg h88, if_neg h90]

/-- Settles O30: a well-formed row of another type carries none of the four accepted values. -/
theorem otherTypesAreDiscarded : Obligations.OtherTypesAreDiscarded := by
  refine ⟨rfl, rfl, fun s v hlive hs hv => ?_⟩
  rw [← decodeType_of_wf hv, exec_decodeType_of_frameType v hlive hs, typeByte_of_wf hv]
  rfl

end Sys2Proof.Machine
end

section
/-! One body byte of a frame (R118 to R120). -/

namespace Sys2Proof.Machine

variable {s t : State}

/-- A PUSH of a body byte other than the checksum. -/
theorem execPush_of_bodyByte {b v : Byte} (h : s.Receives b v) (hbody : s.rx.state.IsBody)
    (hlen : s.rx.count.toNat < s.rx.len.toNat) (ht : s.escapeDone.bodyByte v = .ok t) :
    exec (.push b) s = .next t :=
  execPush_of_ok h ((rxValue_of_body s.escapeDone v hbody).trans ((bodyValue_of_lt s.escapeDone v hlen).trans ht))

/-- Settles O31: the byte is below the header size, so it is a header byte. -/
theorem headerBytesAreStored : Obligations.HeaderBytesAreStored :=
  fun s _ _ _ h hbody hk hlen hlt =>
    execPush_of_bodyByte h hbody hlen (bodyByte_of_header (s := s.escapeDone) hk hlt)

theorem payloadToScratch_eq (s : State) (j : Nat) (v : Byte) :
    s.payloadToScratch j v = { s with rx := { s.rx with
      scratch := if j < s.rx.limit.toNat then tableSet unlistedByte s.rx.scratch j v else s.rx.scratch } } := by
  unfold State.payloadToScratch
  split <;> rfl

theorem bodyByte_of_data {v : Byte} {k : Nat} (hs : s.rx.state = .data) (hk : headerSize s.rx.type = some k)
    (hle : k ≤ s.rx.count.toNat) :
    s.bodyByte v = .ok ((s.payloadToScratch (s.rx.count.toNat - k) v).countByte v) := by
  rw [bodyByte_of_payload hk hle, State.payloadByte, hs]
  rfl

/-- The bytes after the header of 0x88, 0x8A and 0x8B are only counted (R120). -/
theorem bodyByte_of_status {v : Byte} {k : Nat}
    (hs : s.rx.state = .modemStatus ∨ s.rx.state = .transmitStatus ∨ s.rx.state = .atResponse)
    (hk : headerSize s.rx.type = some k) (hle : k ≤ s.rx.count.toNat) : s.bodyByte v = .ok (s.countByte v) := by
  rw [bodyByte_of_payload hk hle, State.payloadByte]
  obtain hs | hs | hs := hs <;> rw [hs] <;> rfl

/-- Settles O32: to scratch, to the session's buffer, past the limit, and after the other headers. -/
theorem payloadBytesAreDelivered : Obligations.PayloadBytesAreDelivered := by
  refine ⟨fun s b v h hs htype hlen hle => ?_, fun s b v r a h hs htype hlen hle hlim hr ha hv hwf => ?_,
    fun s b v h hs htype hlen hle hlim => ?_, fun s b v k h hs hk hlen hle => ?_⟩
  · have hbyte := bodyByte_of_data (s := s.escapeDone) (v := v) hs (congrArg headerSize htype) hle
    rw [payloadToScratch_eq] at hbyte
    exact execPush_of_bodyByte h (hs ▸ trivial) hlen hbyte
  · subst ha
    have hstore := payloadToSession_of_valid (s := s.escapeDone) (v := v) hlim hr hv
    have hbyte := bodyByte_of_dataRequested (s := s.escapeDone) (v := v) hs (congrArg headerSize htype) hle
    exact ⟨_, execPush_of_bodyByte h (hs ▸ trivial) hlen (hbyte.trans (congrArg (Res.andThen · _) hstore)),
      Memory.read_write_same _ _ _ hwf, fun c hc => Memory.read_write_other _ _ _ _ hc⟩
  · have hskip := payloadToSession_of_limit (s := s.escapeDone) (v := v) hlim
    have hbyte := bodyByte_of_dataRequested (s := s.escapeDone) (v := v) hs (congrArg headerSize htype) hle
    exact execPush_of_bodyByte h (hs ▸ trivial) hlen (hbyte.trans (congrArg (Res.andThen · _) hskip))
  · have hbody : s.rx.state.IsBody := by obtain hs | hs | hs := hs <;> rw [hs] <;> trivial
    exact execPush_of_bodyByte h hbody hlen (bodyByte_of_status (s := s.escapeDone) hs hk hle)

end Sys2Proof.Machine
end

section
/-! The checksum byte and the completions (R121 to R128). -/

namespace Sys2Proof.Machine

variable {s t : State}

/-- Settles O34: the test of the sum fails, so the frame is given up. -/
theorem checksumMismatchDiscards : Obligations.ChecksumMismatchDiscards :=
  fun s _ v h hbody hcount hsum =>
    execPush_of_ok h ((rxValue_of_body s.escapeDone v hbody).trans (bodyValue_of_invalid s.escapeDone v hcount hsum))

/-- A PUSH of a valid checksum byte (R121). -/
theorem execPush_of_complete {b v : Byte} (h : s.Receives b v) (hbody : s.rx.state.IsBody)
    (hcount : s.rx.count = s.rx.len) (hsum : s.rx.sum + v = 0xFF) (ht : s.escapeDone.complete = .ok t) :
    exec (.push b) s = .next (t.setRxState .frameMark) := by
  refine execPush_of_ok h ((rxValue_of_body s.escapeDone v hbody).trans ?_)
  rw [bodyValue_of_valid s.escapeDone v hcount hsum, ht, Res.andThen_ok]

theorem complete_of_modemStatus (hs : s.rx.state = .modemStatus) : s.complete = .ok s.completeModemStatus := by
  rw [State.complete, hs]

/-- A modem status changes the correlation fields only, by its status (R124). -/
theorem completeModemStatus_eq {corr : Corr}
    (hjoined : s.rx.hdr[0] = 0x02 → corr = { s.corr with assoc := .associated })
    (hleft : s.rx.hdr[0] = 0x03 → corr = { s.corr with assoc := .notAssociated, sessPending := false })
    (hother : s.rx.hdr[0] ≠ 0x02 → s.rx.hdr[0] ≠ 0x03 → corr = s.corr) :
    s.completeModemStatus = { s with corr := corr } := by
  unfold State.completeModemStatus
  split_ifs with h2 h3
  · rw [hjoined h2]; rfl
  · rw [hleft h3]; rfl
  · rw [hother h2 h3]

/-- Settles O35, by the status at the checksum byte; the rows are the completions themselves. -/
theorem modemStatusCompletion : Obligations.ModemStatusCompletion := by
  refine ⟨fun s b v corr h hs hcount hsum hjoined hleft hother => ?_, fun s st hlive =>
    ⟨taskPhase_of_live s _ hlive, taskPhase_of_live s _ hlive, taskPhase_of_live s _ hlive⟩⟩
  have hdone : s.escapeDone.complete = .ok { s.escapeDone with corr := corr } :=
    (complete_of_modemStatus (s := s.escapeDone) hs).trans
      (congrArg Res.ok (completeModemStatus_eq hjoined hleft hother))
  exact execPush_of_complete h (hs ▸ trivial) hcount hsum hdone

theorem complete_of_transmitStatus {q : ReqRef} (hs : s.rx.state = .transmitStatus) (hq : s.corr.req = some q) :
    s.complete = .ok (s.setRequestResult q (transmitDelivery s.rx.hdr)).clearExpect := by
  rw [State.complete, hs]
  dsimp only
  rw [State.completeTransmitStatus, hq]

/-- Settles O36: the completion reads the delivery byte and no id. -/
theorem transmitStatusCompletion : Obligations.TransmitStatusCompletion :=
  fun s _ _ _ h hs hcount hsum hq =>
    execPush_of_complete h (hs ▸ trivial) hcount hsum (complete_of_transmitStatus (s := s.escapeDone) hs hq)

theorem complete_of_data (hs : s.rx.state = .data) : s.complete = .ok s := by
  rw [State.complete, hs]

/-- Settles O38: a frame for the session, and one that no session claimed. -/
theorem receivePacketCompletion : Obligations.ReceivePacketCompletion := by
  refine ⟨fun s b v r h hs hcount hsum hr => ?_, fun s b v h hs hcount hsum => ?_⟩
  · have hbody : s.rx.state.IsBody := hs ▸ trivial
    have hvalue : s.escapeDone.rxValue v = .ok (s.escapeDone.delivered r) := by
      rw [rxValue_of_body s.escapeDone v hbody, bodyValue_of_valid s.escapeDone v hcount hsum,
        complete_of_dataRequested (s := s.escapeDone) hs hr]
    exact execPush_of_ok h hvalue
  · exact execPush_of_complete h (hs ▸ trivial) hcount hsum (complete_of_data (s := s.escapeDone) hs)

end Sys2Proof.Machine
end

section
/-! The frame of a modem status, whatever the Receiver was doing (R124, R157). -/

namespace Sys2Proof.Machine

variable {s : State}

/-- The Receiver once the type byte of a modem status of one body byte is accepted (R113). -/
def State.acceptStatusFrame (s : State) : State := ((s.atTypeOf 2).startBody 0x8A).setRxState .modemStatus

/-- The Receiver once the status byte `st` of such a frame is stored (R119). -/
def State.statusStored (s : State) (st : Byte) : State := (s.acceptStatusFrame.storeHeader st).countByte st

theorem modemStatusValue_statusStored (s : State) (st : Byte) :
    modemStatusValue (s.statusStored st).rx.hdr = st := by
  simp [modemStatusValue, State.statusStored, State.acceptStatusFrame]

/-- The three body values of a modem status (R113, R119, R124). -/
theorem feed_modemStatus (st : Byte) :
    (s.atTypeOf 2).feed [0x8A, st, 0x75 - st] =
      .ok ((s.statusStored st).completeModemStatus.setRxState .frameMark) := by
  have htype : (s.atTypeOf 2).rxValue 0x8A = .ok s.acceptStatusFrame := rfl
  have hstatus : s.acceptStatusFrame.rxValue st = .ok (s.statusStored st) := rfl
  have hsum : (s.statusStored st).rx.sum + (0x75 - st) = 0xFF := by
    change 0x8A + st + (0x75 - st) = 0xFF
    rw [add_assoc, add_sub_cancel]
    rfl
  have hcount : (s.statusStored st).rx.count = (s.statusStored st).rx.len := by
    change (0 + 1 : U16) = 2 - 1
    decide
  have hcheck : (s.statusStored st).rxValue (0x75 - st) =
      .ok ((s.statusStored st).completeModemStatus.setRxState .frameMark) := by
    rw [rxValue_of_body (s.statusStored st) _ trivial, bodyValue_of_valid (s.statusStored st) _ hcount hsum]
    rfl
  rw [feed_cons htype, feed_cons hstatus, feed_cons hcheck]
  rfl

/-- Settles O43: after the delimiter the values are a modem status of status 0x03, which leaves. -/
theorem disassociationAbortsTheSession : Obligations.DisassociationAbortsTheSession := by
  intro s h _
  have hfeed : s.resync.feed [0x00, 0x02, 0x8A, 0x03, 0x72] = _ :=
    (feed_length (declared := 2) (by simp) (by decide)).trans (feed_modemStatus (s := s.resync) 0x03)
  have hleft : (s.resync.statusStored 0x03).completeModemStatus = (s.resync.statusStored 0x03).left := by
    rw [State.completeModemStatus, modemStatusValue_statusStored]
    rfl
  rw [hleft] at hfeed
  exact ⟨_, runOps_frame h hfeed, congrArg (fun c : Corr => { c with assoc := .notAssociated, sessPending := false })
    s.resync_corr, s.resync_recs, s.resync_mem, s.resync_task, rfl⟩

end Sys2Proof.Machine
end

section
/-! The Request Dispatcher outside its contract, the sequence ids, and SUBMIT's phase W (R132 to R142, R161,
R170). -/

namespace Sys2Proof.Machine

variable {s : State}

/-! Commands outside the contract. -/

/-- A command whose critical section raises records the fault and changes nothing else, `ie` included
(R43, R161). -/
theorem taskPhase_critical_of_raise {body : State → Res} {f : FaultCode} (hlive : s.Live)
    (hraise : body { s with ie := false } = .raise f) :
    taskPhase s (s.critical body) = .next { s with fault := some f } := by
  rw [taskPhase_of_live s _ hlive, State.critical, hraise]
  rfl

theorem submitChecks_of_busy {c : TaskCommand} {len : Nat} {k : Res}
    (hbusy : s.task.op ≠ .noOp ∨ s.tx.state ≠ .idle) : s.submitChecks c len k = .raise (.busy c) :=
  if_pos hbusy

theorem submitChecks_of_tooLong {c : TaskCommand} {len : Nat} {k : Res} (hop : s.task.op = .noOp)
    (hidle : s.tx.state = .idle) (hlong : 0xFFFF < len) : s.submitChecks c len k = .raise (.tooLong len) := by
  rw [State.submitChecks, if_neg (by simp [hop, hidle]), if_pos hlong]

/-- Settles O9: the tests of each command come before any write, so its critical section raises at once. -/
theorem commandsOutsideTheContractFault : Obligations.CommandsOutsideTheContractFault := by
  refine ⟨fun s d hlive hbusy => ⟨?_, ?_⟩, fun s r hlive hop => ⟨?_, ?_⟩,
    fun s d hlive hop hidle hlong => ?_, fun s d hlive hop hidle hlong => ?_⟩
  · exact taskPhase_critical_of_raise hlive (submitChecks_of_busy (s := { s with ie := false }) hbusy)
  · exact taskPhase_critical_of_raise hlive (submitChecks_of_busy (s := { s with ie := false }) hbusy)
  · exact taskPhase_critical_of_raise (body := State.receiveBody r) hlive (if_pos hop)
  · exact taskPhase_critical_of_raise (body := State.assocReadBody) hlive (if_pos hop)
  · exact taskPhase_critical_of_raise hlive (submitChecks_of_tooLong (s := { s with ie := false }) hop hidle hlong)
  · exact taskPhase_critical_of_raise hlive (submitChecks_of_tooLong (s := { s with ie := false }) hop hidle hlong)

/-! Sequence ids. -/

/-- `next_id` as arithmetic: it counts in the range 1 to 255 (R134). -/
theorem nextId_toNat (x : Byte) : (nextId x).toNat = x.toNat % 255 + 1 := by
  unfold nextId
  split_ifs with hx
  · rw [hx]; rfl
  · bv_omega

/-- The ids issued after any id `x` (R142). -/
theorem iterate_nextId_toNat (x : Byte) (k : Nat) : (nextId^[k + 1] x).toNat = (x.toNat + k) % 255 + 1 := by
  induction k with
  | zero => exact nextId_toNat x
  | succ k ih =>
    rw [Function.iterate_succ_apply', nextId_toNat, ih]
    omega

/-- Settles O48: the id after reset is 0 (R185). -/
theorem sequenceIdsWrap : Obligations.SequenceIdsWrap := by
  intro k hk
  have hiterate := iterate_nextId_toNat State.reset.corr.seqId (k - 1)
  have hreset : State.reset.corr.seqId.toNat = 0 := rfl
  rwa [Nat.sub_add_cancel hk, hreset, Nat.zero_add] at hiterate

/-! SUBMIT's phase W. -/

theorem submitDone_iff : s.submitDone = true ↔ s.tx.state = .idle ∧ s.corr.expect = .none := by
  simp [State.submitDone]

theorem submitPhaseW_of_done {q : ReqRef} (hdone : s.submitDone = true) (hq : s.corr.req = some q) :
    s.submitPhaseW = .ok ({ s with
      task := { s.task with wait := .none, op := .noOp },
      corr := { s.corr with req := none } }.report (.submitReturned (s.requestResult q))) := by
  rw [State.submitPhaseW, if_pos hdone, hq]

theorem submitPhaseW_of_not_done (hwait : ¬ s.submitDone = true) : s.submitPhaseW = .ok s := if_neg hwait

/-- A resumption in SubmitWait runs phase W (R137, R174). -/
theorem step_of_submitWait {rest : List Input} (h : s.Takes .resume rest) (hop : s.task.op = .submitWait) :
    step s = settle { s with inputs := rest } (State.submitPhaseW { s with inputs := rest }) := by
  rw [step_of_resume s rest h, State.resumeTask, hop]

/-- Settles O47: phase W, with its predicate true and false. -/
theorem submitPhaseW : Obligations.SubmitPhaseW := by
  refine ⟨fun s rest q h hop hidle hexpect hq => ?_, fun s rest h hop hwait => ?_⟩
  · have hdone : State.submitDone { s with inputs := rest } = true := submitDone_iff.mpr ⟨hidle, hexpect⟩
    rw [step_of_submitWait h hop, submitPhaseW_of_done hdone hq]
    rfl
  · have hnot : ¬ State.submitDone { s with inputs := rest } = true := fun hdone =>
      have ⟨hidle, hexpect⟩ := submitDone_iff.mp hdone
      hwait.elim (· hidle) (· hexpect)
    rw [step_of_submitWait h hop, submitPhaseW_of_not_done hnot, settle_ok]

end Sys2Proof.Machine
end

section
/-! RECEIVE's phases A, B and W, and ASSOC_READ (R144 to R152). -/

namespace Sys2Proof.Machine

variable {s t : State} {r : Ref} {rest : List Input}

/-! Phase A, and ASSOC_READ. -/

/-- A command whose critical section comes to its end restores `ie` (R42, R43). -/
theorem taskPhase_critical_of_ok {body : State → Res} (hlive : s.Live) (hok : body { s with ie := false } = .ok t) :
    taskPhase s (s.critical body) = .next { t with ie := s.ie } := by
  rw [taskPhase_of_live s _ hlive, State.critical, hok]
  rfl

theorem receiveBody_of_not_associated (hop : s.task.op = .noOp) (ha : s.corr.assoc ≠ .associated) :
    s.receiveBody r = .ok (s.report (.receiveReturned false)) := by
  rw [State.receiveBody, if_neg (not_not.mpr hop), if_pos (by simpa [State.associated] using ha)]

/-- Settles O50: phase A returns before it writes anything. -/
theorem receiveWhenNotAssociated : Obligations.ReceiveWhenNotAssociated :=
  fun s _ hlive hop ha =>
    taskPhase_critical_of_ok hlive (receiveBody_of_not_associated (s := { s with ie := false }) hop ha)

theorem receiveBody_of_associated (hop : s.task.op = .noOp) (ha : s.corr.assoc = .associated) :
    s.receiveBody r = .ok ((s.repoint (s.recvRecord r).cap).openSession r
      (s.copyLength (s.recvRecord r).cap) (s.copyFromScratch (s.recvRecord r).cap)) := by
  rw [State.receiveBody, if_neg (not_not.mpr hop), if_neg (by simp [State.associated, ha])]

/-- RECEIVE while associated opens the session (R144). -/
theorem exec_receive_of_associated (hlive : s.Live) (hop : s.task.op = .noOp) (ha : s.corr.assoc = .associated) :
    exec (.receive r) s = .next (s.startReceive r) :=
  (taskPhase_critical_of_ok hlive (receiveBody_of_associated (s := { s with ie := false }) hop ha)).trans
    (congrArg _ (openSession_masked r))

/-- Outside Data there is nothing to re-point and nothing to copy (R147). -/
theorem startReceive_of_not_data (hd : s.rx.state ≠ .data) : s.startReceive r = s.openSession r 0 0 := by
  rw [State.startReceive, State.repoint, State.copyLength, State.copyFromScratch, if_neg hd, if_neg hd, if_neg hd]

/-- In Data the frame is re-pointed, and the bytes it has seen are to be copied (R147, R148). -/
theorem startReceive_of_data {cap : U16} (hcap : cap = (s.recvRecord r).cap) (hd : s.rx.state = .data) :
    s.startReceive r = ({ s with
      rx := { s.rx with limit := minLen s.rx.full cap, state := .dataRequested } } : State).openSession r
        (min s.payloadSeen cap.toNat) (min (min s.payloadSeen cap.toNat) s.rx.limit.toNat) := by
  subst hcap
  rw [State.startReceive, State.repoint, State.copyFromScratch, State.copyLength, if_pos hd, if_pos hd, if_pos hd]

/-- Settles O51, by whether a frame is in Data. -/
theorem receiveOpensTheSession : Obligations.ReceiveOpensTheSession := by
  refine ⟨fun s r hlive hop ha hd => ?_, fun s r j k c hlive hop ha hd hj hk hc => ?_⟩
  · rw [exec_receive_of_associated hlive hop ha, startReceive_of_not_data hd]
    rfl
  · refine ⟨minLen s.rx.full (s.recvRecord r).cap, minLen_toNat _ _, ?_⟩
    rw [exec_receive_of_associated hlive hop ha, startReceive_of_data rfl hd]
    subst hj hk hc
    rfl

/-- Settles O54, by whether a command is active. -/
theorem assocReadReturns : Obligations.AssocReadReturns :=
  fun _ hlive =>
    ⟨fun hop => taskPhase_critical_of_ok (body := State.assocReadBody) hlive (if_neg (not_not.mpr hop)),
      fun hop => taskPhase_critical_of_raise (body := State.assocReadBody) hlive (if_pos hop)⟩

/-! Phase B. -/

/-- A resumption in RecvCopy runs phase B (R150, R174). -/
theorem step_of_recvCopy (h : s.Takes .resume rest) (hop : s.task.op = .recvCopy) :
    step s = settle { s with inputs := rest } (State.receivePhaseB { s with inputs := rest }) := by
  rw [step_of_resume s rest h, State.resumeTask, hop]

/-- The block after phase B has written a byte at `a` (R144, R150). -/
def State.copied (s : State) (a : Nat) : State :=
  { s with
    mem := Memory.write s.mem a s.copyByte
    draws := if s.task.copyI.toNat < s.task.copyC.toNat then s.draws else s.draws + 1
    task := s.task.afterCopy }

theorem receivePhaseB_of_valid (hr : s.corr.sess = some r)
    (hv : addrValid s.params ((s.recvRecord r).bufPtr + s.task.copyI.toNat) = true) :
    s.receivePhaseB = .ok (s.copied ((s.recvRecord r).bufPtr + s.task.copyI.toNat)) := by
  rw [State.receivePhaseB, hr]
  dsimp only
  rw [(State.memWrite_eq_some s _ _ s.copyByte).mpr ⟨hv, rfl⟩]
  dsimp only
  rw [copyDrawn_eq]
  rfl

theorem receivePhaseB_of_invalid (hr : s.corr.sess = some r)
    (hv : addrValid s.params ((s.recvRecord r).bufPtr + s.task.copyI.toNat) = false) :
    s.receivePhaseB = .raise (.mem ((s.recvRecord r).bufPtr + s.task.copyI.toNat)) := by
  rw [State.receivePhaseB, hr]
  dsimp only
  rw [(State.memWrite_eq_none s _ s.copyByte).mpr hv]

/-- Settles O52: phase B with a valid address, and with one that is not. -/
theorem receiveCopiesOneByte : Obligations.ReceiveCopiesOneByte := by
  refine ⟨fun s rest r a h hop hr ha hv hwf => ?_, fun s rest r a h hop hr ha hv => ?_⟩
  · subst ha
    rw [step_of_recvCopy h hop, receivePhaseB_of_valid (s := { s with inputs := rest }) hr hv]
    exact ⟨_, rfl, Memory.read_write_same _ _ _ hwf, fun c hc => Memory.read_write_other _ _ _ _ hc⟩
  · subst ha
    rw [step_of_recvCopy h hop, receivePhaseB_of_invalid (s := { s with inputs := rest }) hr hv]
    rfl

/-! Phase W. -/

/-- A resumption in RecvWait runs phase W (R151, R174). -/
theorem step_of_recvWait (h : s.Takes .resume rest) (hop : s.task.op = .recvWait) :
    step s = settle { s with inputs := rest } (State.receivePhaseW { s with inputs := rest }) := by
  rw [step_of_resume s rest h, State.resumeTask, hop]

theorem receivePhaseW_of_clear (hp : s.corr.sessPending = false) :
    s.receivePhaseW = .ok ({ s with
      task := { s.task with wait := .none, op := .noOp },
      corr := { s.corr with sess := none } }.report (.receiveReturned s.corr.sessSuccess)) := by
  rw [State.receivePhaseW, State.sessionClear, hp]
  rfl

theorem receivePhaseW_of_pending (hp : s.corr.sessPending = true) : s.receivePhaseW = .ok s := by
  rw [State.receivePhaseW, State.sessionClear, hp]
  rfl

/-- Settles O53: phase W, with the session ended and with it pending. -/
theorem receivePhaseW : Obligations.ReceivePhaseW := by
  refine ⟨fun s rest h hop hp => ?_, fun s rest h hop hp => ?_⟩
  · rw [step_of_recvWait h hop, receivePhaseW_of_clear (s := { s with inputs := rest }) hp]
    rfl
  · rw [step_of_recvWait h hop, receivePhaseW_of_pending (s := { s with inputs := rest }) hp]
    rfl

end Sys2Proof.Machine
end

section
/-! Runs over a list of moves: the block goes on from each state it comes to (R62), and a stream of PUSHes brings
its values to the Receiver (R104 to R107). -/

namespace Sys2Proof.Machine

variable {s t u : State} {rest : List Input}

/-- As many steps as there are moves of the environment to come. -/
def State.runMoves (s : State) : Host.Outcome State Fault Refusal := runSteps s.inputs.length s

theorem runMoves_of_step {i : Input} (hi : s.inputs = i :: rest) (h : step s = .next t) (ht : t.inputs = rest) :
    s.runMoves = t.runMoves := by
  rw [State.runMoves, hi, List.length_cons, runSteps, h, State.runMoves, ht]

/-- The moves of `s` have brought it to `t`, which meets the invariant and has `rest` still to come; no fault is
recorded and no byte event is held. -/
structure State.Reaches (s t : State) (rest : List Input) : Prop where
  run : s.runMoves = t.runMoves
  inv : Inv t
  live : t.Live
  held : t.held = []
  inputs : t.inputs = rest

theorem State.Reaches.takes {i : Input} (h : s.Reaches t (i :: rest)) : t.Takes i rest :=
  ⟨h.live, .inl h.held, h.inputs⟩

theorem State.Reaches.step {i : Input} (h : s.Reaches t (i :: rest)) (hu : step t = .next u) (hlive : u.Live)
    (hheld : u.held = t.held) (hinputs : u.inputs = rest) : s.Reaches u rest where
  run := h.run.trans (runMoves_of_step h.inputs hu hinputs)
  inv := stepKeepsInv t u h.inv hu
  live := hlive
  held := hheld.trans h.held
  inputs := hinputs

theorem decodeOperation_encode {i : Instr} (hf : i.format = .op3) (hw : i.wf = true) :
    decodeOperation (encode i) = .ok i := by
  have hi := decodeOfEncode i [] hw
  rw [hf, List.append_nil] at hi
  rw [decodeOperation, hi]

/-- The environment's move that delivers the raw byte `b`. -/
def pushMove (b : Byte) : Input := .operation (encode (.push b))

/-- A PUSH among the moves. -/
theorem State.Reaches.push {b : Byte} (h : s.Reaches t (pushMove b :: rest))
    (hu : State.pushBody { t with inputs := rest } b = .ok u) : s.Reaches u rest := by
  have hk := (pushBody_effect hu).kept
  have hready : State.Ready { t with inputs := rest } := ⟨h.live, h.inv.ie⟩
  refine h.step ?_ (hk.fault.trans h.live) hk.held hk.inputs
  rw [stepRunsTheOperation t _ rest _ h.takes (decodeOperation_encode rfl rfl), execPush_of_ready _ b hready, hu,
    settle_ok]

theorem pushBody_of_isData {b : Byte} (hb : IsData b) : s.pushBody b = s.escapeDone.rxValue (s.unescaped b) := by
  obtain ⟨h11, h13, h7e, h7d⟩ := hb
  rw [State.pushBody, if_neg (by simp [isFlow]; exact ⟨h11, h13⟩), if_neg h7e, if_neg h7d]
  rfl

/-- A raw byte that is sent as itself carries its value (R107). -/
theorem pushBody_plain {v : Byte} (he : s.rx.esc = false) (hv : isSpecial v = false) :
    s.pushBody v = s.rxValue v := by
  rw [pushBody_of_isData ((isSpecial_eq_false_iff v).mp hv), escapeDone_of_esc he, State.unescaped, he]
  rfl

/-- The second byte of an escape pair carries the special value (R72, R107). -/
theorem pushBody_escaped {v : Byte} (he : s.rx.esc = false) (hv : isSpecial v = true) :
    s.escapeNext.pushBody (escapeMask v) = s.rxValue v := by
  have hvalue : s.escapeNext.unescaped (escapeMask v) = v := escapeMask_escapeMask v
  have hclosed : s.escapeNext.escapeDone = s := escapeDone_of_esc he
  rw [pushBody_of_isData (isData_escapeMask v hv), hvalue, hclosed]

/-- The bytes of a value, as moves, bring that value to the Receiver (R72, R106, R107). -/
theorem State.Reaches.value {v : Byte} (h : s.Reaches t ((wireValue v).map pushMove ++ rest))
    (he : t.rx.esc = false) (hu : State.rxValue { t with inputs := rest } v = .ok u) : s.Reaches u rest := by
  unfold wireValue at h
  cases hv : isSpecial v with
  | false =>
    rw [hv] at h
    exact h.push ((pushBody_plain (s := { t with inputs := rest }) he hv).trans hu)
  | true =>
    rw [hv] at h
    have hopen : s.Reaches (State.escapeNext { t with inputs := pushMove (escapeMask v) :: rest }) _ := h.push rfl
    exact hopen.push ((pushBody_escaped (s := { t with inputs := rest }) he hv).trans hu)

/-- The moves that deliver the values `vs` (R72). -/
def valueMoves (vs : List Byte) : List Input := (vs.flatMap wireValue).map pushMove

theorem valueMoves_append (vs ws : List Byte) : valueMoves (vs ++ ws) = valueMoves vs ++ valueMoves ws := by
  rw [valueMoves, List.flatMap_append, List.map_append]
  rfl

theorem valueMoves_cons_append (v : Byte) (vs : List Byte) :
    valueMoves (v :: vs) ++ rest = (wireValue v).map pushMove ++ (valueMoves vs ++ rest) := by
  rw [valueMoves, List.flatMap_cons, List.map_append, List.append_assoc]
  rfl

/-- `t` is where a stream of values has brought `s`: no escape pair is open, and what is not the Receiver's stays
(R20). -/
structure State.Hears (s t : State) (rest : List Input) : Prop extends s.Reaches t rest where
  esc : t.rx.esc = false
  task : t.task = s.task
  taskEvents : t.out.task = s.out.task

theorem State.Hears.value {v : Byte} {vs : List Byte} (h : s.Hears t (valueMoves (v :: vs) ++ rest))
    (hu : State.rxValue { t with inputs := valueMoves vs ++ rest } v = .ok u) :
    s.Hears u (valueMoves vs ++ rest) := by
  have hk := (rxValue_effect hu).kept
  have hmoves := h.toReaches
  rw [valueMoves_cons_append] at hmoves
  exact {
    toReaches := hmoves.value h.esc hu
    esc := (rxValue_esc hu).trans h.esc
    task := hk.task.trans h.task
    taskEvents := hk.taskEvents.trans h.taskEvents }

/-- A property of the values heard so far that every further value up to `n` keeps, whatever moves are to come, holds
after all of them. -/
theorem State.Hears.values {P : List Byte → State → Prop} {n : Nat}
    (inputs : ∀ bytes t l, P bytes t → P bytes { t with inputs := l })
    (step : ∀ bytes t v, P bytes t → bytes.length < n → ∃ u, t.rxValue v = .ok u ∧ P (bytes ++ [v]) u)
    {bytes vs : List Byte} (h : s.Hears t (valueMoves vs ++ rest)) (hP : P bytes t)
    (hn : bytes.length + vs.length ≤ n) : ∃ u, s.Hears u rest ∧ P (bytes ++ vs) u := by
  induction vs generalizing bytes t with
  | nil => exact ⟨t, h, by rwa [List.append_nil]⟩
  | cons v vs ih =>
    rw [List.length_cons] at hn
    obtain ⟨u, hu, hPu⟩ := step bytes _ v (inputs bytes t (valueMoves vs ++ rest) hP) (by omega)
    obtain ⟨w, hw, hPw⟩ := ih (h.value hu) hPu (by rw [List.length_append, List.length_singleton]; omega)
    exact ⟨w, hw, by simpa using hPw⟩

end Sys2Proof.Machine
end

section
/-! A 0x90 frame that no session has claimed, up to some byte of its payload (R116, R119, R120). -/

namespace Sys2Proof.Machine

variable {s t u : State} {r : Ref} {rest : List Input}

/-- 0x90 accepted for scratch (R116). -/
def State.acceptForScratch (s : State) : State :=
  { s.startBody 0x90 with rx := { (s.startBody 0x90).rx with
      full := s.rx.len - 11, limit := minLen (s.rx.len - 11) s.params.scratchCapacity, state := .data } }

/-- The Receiver has just accepted a frame for scratch (R116). -/
structure State.ForScratch (s : State) : Prop where
  state : s.rx.state = .data
  type : s.rx.type = 0x90
  count : s.rx.count = 0
  wf : tableWf unlistedByte s.rx.scratch = true

/-- `t` is `s` after the first body bytes `bytes` of a frame for scratch: its payload stands in scratch
(R120). -/
structure State.Scratched (s : State) (bytes : List Byte) (t : State) : Prop extends s.Collected bytes t where
  wf : tableWf unlistedByte t.rx.scratch = true
  payload : ∀ (j : Nat) (v : Byte), bytes[11 + j]? = some v → t.scratchByte j = v

theorem State.ForScratch.scratched_nil (h : s.ForScratch) : s.Scratched [] s where
  toCollected := .nil h.count
  wf := h.wf
  payload := nofun

theorem State.Scratched.withInputs {bytes : List Byte} (h : s.Scratched bytes t) (l : List Input) :
    s.Scratched bytes { t with inputs := l } where
  toCollected := { h.toCollected with }
  wf := h.wf
  payload := h.payload

theorem State.Scratched.headerByte {bytes : List Byte} (h : s.Scratched bytes t)
    (hlt : bytes.length < s.rx.len.toNat) (hhdr : bytes.length < 11) (v : Byte) :
    s.Scratched (bytes ++ [v]) ((t.storeHeader v).countByte v) where
  toCollected := h.snoc .header hlt
  wf := h.wf
  payload j w hw := by
    rw [List.getElem?_eq_none (by simp; omega)] at hw
    cases hw

theorem State.Scratched.storedByte {bytes : List Byte} (h : s.Scratched bytes t) (hs : s.ForScratch)
    (hlt : bytes.length < s.rx.len.toNat) (hle : 11 ≤ bytes.length) (hlim : bytes.length - 11 < s.rx.limit.toNat)
    (v : Byte) : s.Scratched (bytes ++ [v]) ((t.storeScratch (bytes.length - 11) v).countByte v) where
  toCollected := h.snoc (.scratch _ (h.state.trans hs.state) (h.limit ▸ hlim)) hlt
  wf := tableSet_wf _ _ _ _ h.wf
  payload j w hw := by
    obtain ⟨hold, hlt⟩ | ⟨rfl, rfl⟩ := getElem?_snoc_payload hle hw
    · exact (tableGet_set_other unlistedByte _ _ _ _ (by omega)).trans (h.payload j w hold)
    · exact tableGet_set_same unlistedByte _ 0 _ _ h.wf

/-- One body byte of the frame: a header byte, or a payload byte that scratch has room for. -/
theorem State.ForScratch.bodyByte (hs : s.ForScratch) (bytes : List Byte) (t : State) (v : Byte)
    (h : s.Scratched bytes t) (hlt : bytes.length < s.rx.len.toNat) (hlim : bytes.length < 11 + s.rx.limit.toNat) :
    ∃ u, t.rxValue v = .ok u ∧ s.Scratched (bytes ++ [v]) u := by
  have hk : headerSize t.rx.type = some 11 := by rw [h.type, hs.type]; rfl
  rw [h.rxValue v (hs.state ▸ trivial) hlt]
  obtain hhdr | hle := lt_or_ge bytes.length 11
  · exact ⟨_, bodyByte_of_header hk (h.count ▸ hhdr), h.headerByte hlt hhdr v⟩
  rw [bodyByte_of_data (h.state.trans hs.state) hk (h.count ▸ hle), h.count]
  rw [State.payloadToScratch, if_pos (h.limit ▸ (by omega : bytes.length - 11 < s.rx.limit.toNat))]
  exact ⟨_, rfl, h.storedByte hs hlt hle (by omega) v⟩

/-- The length and the type byte of a frame that no session claims (R109 to R111, R116). -/
theorem State.Hears.acceptForScratch {declared : U16} {vs : List Byte}
    (h : s.Hears t (valueMoves (hiByte declared :: loByte declared :: 0x90 :: vs) ++ rest))
    (hs : t.rx.state = .length1) (h0 : declared ≠ 0) (h11 : 11 ≤ (declared - 1).toNat)
    (hp : t.corr.sessPending = false) :
    s.Hears { (t.atTypeOf declared).acceptForScratch with inputs := valueMoves vs ++ rest }
      (valueMoves vs ++ rest) := by
  have hhigh := h.value (rxValue_of_length1 _ hs)
  have hlow := hhigh.value (rxValue_of_length2 _ rfl)
  rw [lengthLow_of_ne (high := hiByte declared) rfl (by rwa [pair_hiByte_loByte]), pair_hiByte_loByte] at hlow
  exact hlow.value ((rxValue_of_frameType _ _ rfl).trans (acceptReceivePacket_of_scratch h11 hp))

end Sys2Proof.Machine
end

section
/-! Phase B of RECEIVE, byte after byte (R144, R148, R150). -/

namespace Sys2Proof.Machine

variable {s t u : State} {r : Ref} {n i : Nat} {rest : List Input}

@[simp] theorem TaskRegs.afterCopy_copyI (t : TaskRegs) : t.afterCopy.copyI = t.copyI + 1 := by
  unfold TaskRegs.afterCopy; split <;> rfl
@[simp] theorem TaskRegs.afterCopy_copyK (t : TaskRegs) : t.afterCopy.copyK = t.copyK := by
  unfold TaskRegs.afterCopy; split <;> rfl
@[simp] theorem TaskRegs.afterCopy_copyC (t : TaskRegs) : t.afterCopy.copyC = t.copyC := by
  unfold TaskRegs.afterCopy; split <;> rfl

/-- The task goes on copying until the last byte (R150). -/
theorem TaskRegs.afterCopy_op {t : TaskRegs} (hk : t.copyK.toNat = n) (hi : t.copyI.toNat = i) (hlt : i < n) :
    t.afterCopy.op = if i + 1 < n then t.op else .recvWait := by
  have hlast : t.copyI + 1 = t.copyK ↔ ¬ i + 1 < n := by
    rw [← BitVec.toNat_inj, hk, succ_toNat_of_lt (hi ▸ hlt) (hk ▸ t.copyK.isLt), hi]
    omega
  rw [TaskRegs.afterCopy]
  split_ifs with h1 h2 h2
  · exact absurd h2 (hlast.mp h1)
  · rfl
  · rfl
  · exact absurd (hlast.mpr h2) h1

/-- RECEIVE has set up the copy of `n` bytes to the buffer of `r`, all of which scratch holds (R148). -/
structure State.CopyFor (s : State) (r : Ref) (n : Nat) : Prop where
  sess : s.corr.sess = some r
  lengthK : s.task.copyK.toNat = n
  lengthC : s.task.copyC.toNat = n
  valid : ∀ j : Nat, j < n → addrValid s.params ((s.recvRecord r).bufPtr + j) = true

/-- `t` is `s` after `i` of the `n` bytes: they stand in the buffer, and what is not the copy's stays (R150). -/
structure State.Copied (s : State) (r : Ref) (n i : Nat) (t : State) (rest : List Input) : Prop
    extends s.Reaches t rest where
  kept : t = { s with mem := t.mem, draws := t.draws, task := t.task, inputs := t.inputs }
  index : t.task.copyI.toNat = i
  lengthK : t.task.copyK = s.task.copyK
  lengthC : t.task.copyC = s.task.copyC
  op : t.task.op = if i < n then .recvCopy else .recvWait
  copied : ∀ j : Nat, j < i → Memory.read t.mem ((s.recvRecord r).bufPtr + j) = s.scratchByte j

theorem State.Copied.recvRecord (h : s.Copied r n i t rest) : t.recvRecord r = s.recvRecord r := by
  rw [h.kept]; rfl

/-- A byte that scratch holds is copied from there (R148). -/
theorem State.Copied.copyByte (h : s.Copied r n i t rest) (hs : s.CopyFor r n) (hi : i < n) :
    t.copyByte = s.scratchByte i := by
  rw [State.copyByte, if_pos (by rwa [h.index, h.lengthC, hs.lengthC]), h.index, h.kept]
  rfl

/-- One resumption copies the next byte. -/
theorem State.Copied.next (h : s.Copied r n i t (.resume :: rest)) (hs : s.CopyFor r n) (hi : i < n) :
    ∃ u, s.Copied r n (i + 1) u rest := by
  have hcopying : t.task.op = .recvCopy := h.op.trans (if_pos hi)
  have hsess : t.corr.sess = some r := by rw [h.kept]; exact hs.sess
  have hvalid : addrValid t.params ((t.recvRecord r).bufPtr + t.task.copyI.toNat) = true := by
    rw [h.recvRecord, h.index, h.kept]; exact hs.valid i hi
  have hstep : step t = .next (State.copied { t with inputs := rest } ((s.recvRecord r).bufPtr + i)) := by
    rw [step_of_recvCopy h.takes hcopying, receivePhaseB_of_valid (s := { t with inputs := rest }) hsess hvalid,
      ← h.recvRecord, ← h.index]
    rfl
  have hlengthK : t.task.copyK.toNat = n := by rw [h.lengthK, hs.lengthK]
  have hlt : t.task.copyI.toNat < t.task.copyK.toNat := by rwa [h.index, hlengthK]
  refine ⟨_, {
    toReaches := h.step hstep h.live rfl rfl
    kept := ?_
    index := ?_
    lengthK := ?_
    lengthC := ?_
    op := ?_
    copied := fun j hj => ?_ }⟩
  · rw [h.kept]; rfl
  · simp only [State.copied, TaskRegs.afterCopy_copyI]
    rw [succ_toNat_of_lt hlt t.task.copyK.isLt, h.index]
  · exact (TaskRegs.afterCopy_copyK _).trans h.lengthK
  · exact (TaskRegs.afterCopy_copyC _).trans h.lengthC
  · exact (TaskRegs.afterCopy_op hlengthK h.index hi).trans (by rw [hcopying])
  · obtain hlt | rfl := Nat.lt_succ_iff_lt_or_eq.mp hj
    · exact (Memory.read_write_other _ _ _ _ (by omega)).trans (h.copied j hlt)
    · exact (Memory.read_write_same _ _ _ h.inv.store.mem).trans (h.copyByte hs hi)

/-- As many resumptions as there are bytes left copy them all. -/
theorem State.Copied.all {m : Nat} (h : s.Copied r n i t (List.replicate m .resume ++ rest)) (hs : s.CopyFor r n)
    (hm : i + m = n) : ∃ u, s.Copied r n n u rest := by
  induction m generalizing i t with
  | zero => subst hm; exact ⟨t, h⟩
  | succ m ih =>
    obtain ⟨u, hu⟩ := State.Copied.next h hs (by omega)
    exact ih hu (by omega)

end Sys2Proof.Machine
end

section
/-! The moves around a RECEIVE in the middle of a frame: the part for scratch, the RECEIVE, the part for the session, and
the return (R116, R127, R144, R147, R148, R152). -/

namespace Sys2Proof.Machine

variable {s t u : State} {r : Ref} {n : Nat} {rest : List Input}

/-! The first part of the frame, for scratch. -/

theorem acceptForScratch_limit {declared : U16} (h11 : 11 ≤ (declared - 1).toNat) :
    (s.atTypeOf declared).acceptForScratch.rx.limit.toNat =
      min ((declared - 1).toNat - 11) s.params.scratchCapacity.toNat :=
  minLen_payload_toNat _ h11

/-- The length, the type byte, and body bytes that scratch has room for. -/
theorem State.Hears.scratched {declared : U16} {bytes : List Byte}
    (h : s.Hears t (valueMoves (hiByte declared :: loByte declared :: 0x90 :: bytes) ++ rest))
    (hs : t.rx.state = .length1) (hp : t.corr.sessPending = false) (h0 : declared ≠ 0)
    (h11 : 11 ≤ (declared - 1).toNat) (hlen : bytes.length ≤ (declared - 1).toNat)
    (hlim : bytes.length ≤ 11 + min ((declared - 1).toNat - 11) t.params.scratchCapacity.toNat) :
    ∃ u, s.Hears u rest ∧ (t.atTypeOf declared).acceptForScratch.Scratched bytes u := by
  rw [← acceptForScratch_limit h11] at hlim
  have hbase : (t.atTypeOf declared).acceptForScratch.ForScratch := ⟨rfl, rfl, rfl, h.inv.store.scratch⟩
  have hstep (bytes' t' v) (hP : (t.atTypeOf declared).acceptForScratch.Scratched bytes' t')
      (hlt : bytes'.length < bytes.length) := hbase.bodyByte bytes' t' v hP (hlt.trans_le hlen) (hlt.trans_le hlim)
  exact (h.acceptForScratch hs h0 h11 hp).values (fun _ _ l hP => hP.withInputs l) hstep
    (hbase.scratched_nil.withInputs _) (Nat.zero_add _).le

/-! The RECEIVE. -/

/-- RECEIVE among the moves, while associated (R144). -/
theorem State.Reaches.receive (h : s.Reaches t (.operation (encode (.receive r)) :: rest))
    (hop : t.task.op = .noOp) (ha : t.corr.assoc = .associated) :
    s.Reaches (State.startReceive { t with inputs := rest } r) rest := by
  refine h.step ?_ h.live rfl rfl
  rw [stepRunsTheOperation t _ rest _ h.takes (decodeOperation_encode rfl rfl)]
  exact exec_receive_of_associated h.live hop ha

/-- RECEIVE with a frame in Data, all of whose payload so far scratch holds (R147, R148). -/
theorem copyFor_startReceive (hd : s.rx.state = .data) (hseen : s.payloadSeen ≤ s.rx.limit.toNat)
    (hn : n = min s.payloadSeen (s.recvRecord r).cap.toNat)
    (hv : ∀ j : Nat, j < n → addrValid s.params ((s.recvRecord r).bufPtr + j) = true) :
    (s.startReceive r).CopyFor r n := by
  have hk : (BitVec.ofNat 16 n).toNat = n := Nat.mod_eq_of_lt (by omega)
  have hc : min n s.rx.limit.toNat = n := by omega
  rw [startReceive_of_data rfl hd, ← hn, hc]
  exact ⟨rfl, hk, hk, hv⟩

/-- No byte is copied yet; where there is none to copy, the task waits (R144). -/
theorem copied_startReceive (h : t.Reaches t rest) (ht : t = s.startReceive r) (hd : s.rx.state = .data)
    (hn : n = min s.payloadSeen (s.recvRecord r).cap.toNat) : t.Copied r n 0 t rest where
  toReaches := h
  kept := rfl
  index := by rw [ht]; rfl
  lengthK := rfl
  lengthC := rfl
  op := by rw [ht, startReceive_of_data rfl hd, hn]; rfl
  copied _ hj := absurd hj (Nat.not_lt_zero _)

/-! The rest of the frame, for the session. -/

/-- The block as it was when it accepted the frame of which it has seen the body bytes `bytes`. -/
def State.frameStart (s : State) (bytes : List Byte) : State :=
  { s with rx := { s.rx with count := 0, sum := s.rx.sum - bodySum bytes } }

theorem State.Stored.withInputs {bytes : List Byte} (h : s.Stored r bytes t) (l : List Input) :
    s.Stored r bytes { t with inputs := l } where
  toCollected := { h.toCollected with }
  header := h.header
  wf := h.wf
  payload := h.payload

/-- A frame for the session of `r` whose header stands in `rx_hdr`, with its payload `first` so far in the buffer. -/
theorem stored_frameStart {first : List Byte} (hbase : (s.frameStart (s.rx.hdr.toList ++ first)).ForSession r)
    (hcount : s.rx.count.toNat = 11 + first.length)
    (hmem : ∀ (j : Nat) (v : Byte), first[j]? = some v → j < s.rx.limit.toNat →
      Memory.read s.mem ((s.recvRecord r).bufPtr + j) = v) :
    (s.frameStart (s.rx.hdr.toList ++ first)).Stored r (s.rx.hdr.toList ++ first) s where
  state := rfl
  type := rfl
  len := rfl
  limit := rfl
  sum := (sub_add_cancel _ _).symm
  count := by simpa using hcount
  corr := rfl
  recs := rfl
  params := rfl
  header := by
    rw [List.take_of_length_le (by simp), List.take_left' (by simp)]
  wf := hbase.wf
  payload j v hv hj := hmem j v (by rwa [List.getElem?_append_right (by simp), Vector.length_toList,
    Nat.add_sub_cancel_left] at hv) hj

/-- The checksum byte of a frame whose body is stored delivers it (R121, R127). -/
theorem State.Stored.rxValue_checksum {base : State} {bytes : List Byte} {c : Byte} (h : base.Stored r bytes t)
    (hbase : base.ForSession r) (hlen : bytes.length = base.rx.len.toNat)
    (hsum : base.rx.sum + bodySum bytes + c = 0xFF) : t.rxValue c = .ok (t.delivered r) := by
  have hcount : t.rx.count = t.rx.len := BitVec.eq_of_toNat_eq (by rw [h.count, h.len, hlen])
  rw [rxValue_of_body t c (h.state ▸ hbase.isBody), bodyValue_of_valid t c hcount (h.sum ▸ hsum),
    complete_of_dataRequested (h.state.trans hbase.state) (h.corr ▸ hbase.sess)]

/-- The rest of a frame for the session, with a checksum that matches, is stored and delivered (R120, R121, R127). -/
theorem State.Stored.delivers {base : State} {bytes vs : List Byte} {c : Byte} (hstored : base.Stored r bytes t)
    (hbase : base.ForSession r) (h : s.Hears t (valueMoves (vs ++ [c]) ++ rest))
    (hlen : (bytes ++ vs).length = base.rx.len.toNat) (hsum : base.rx.sum + bodySum (bytes ++ vs) + c = 0xFF) :
    ∃ u, base.Stored r (bytes ++ vs) u ∧ s.Hears (u.delivered r) rest := by
  rw [valueMoves_append, List.append_assoc] at h
  obtain ⟨u, hu, hall⟩ := h.values (fun _ _ l hP => hP.withInputs l) hbase.bodyByte hstored
    (by rw [← List.length_append]; exact hlen.le)
  have hall := hall.withInputs rest
  exact ⟨_, hall, hu.value (vs := []) (hall.rxValue_checksum hbase hlen hsum)⟩

/-- RECEIVE returns once its session has ended (R152). -/
theorem State.Reaches.receiveReturns (h : s.Reaches t [.resume]) (hop : t.task.op = .recvWait)
    (hp : t.corr.sessPending = false) :
    s.runMoves = .next { t with
      inputs := []
      task := { t.task with wait := .none, op := .noOp }
      corr := { t.corr with sess := none }
      out := { t.out with task := .receiveReturned t.corr.sessSuccess :: t.out.task } } :=
  (h.step (Machine.receivePhaseW.1 t [] h.takes hop hp) h.live rfl rfl).run

/-! The frame, cut in two. -/

/-- The values of a 0x90 frame, cut after the payload bytes `first` (R69). -/
theorem frameValues_cut {header first : List Byte} (last : List Byte) (hh : header.length = 11) :
    let body := 0x90 :: (header ++ (first ++ last))
    (frameValues body).take (14 + first.length) =
        hiByte (BitVec.ofNat 16 body.length) :: loByte (BitVec.ofNat 16 body.length) :: 0x90 :: (header ++ first) ∧
      (frameValues body).drop (14 + first.length) = last ++ [checksumOf (bodySum body)] := by
  intro body
  have hcut : frameValues body = (hiByte (BitVec.ofNat 16 body.length) :: loByte (BitVec.ofNat 16 body.length) ::
      0x90 :: (header ++ first)) ++ (last ++ [checksumOf (bodySum body)]) := by
    simp [frameValues, body]
  rw [hcut]
  exact ⟨List.take_left' (by simp [hh]; omega), List.drop_left' (by simp [hh]; omega)⟩

end Sys2Proof.Machine
end

section
/-! The script of a frame that a RECEIVE overlaps (R156). -/

namespace Sys2Proof.Machine

variable {s t u : State} {r : Ref} {n : Nat} {header first last : List Byte} {rest : List Input}

/-- `t` is `s` in the middle of a 0x90 frame of the payload `first ++ last`, of which `first` stands in scratch. -/
structure State.MidFrame (s : State) (header first last : List Byte) (t : State) : Prop where
  state : t.rx.state = .data
  type : t.rx.type = 0x90
  len : t.rx.len.toNat = 11 + (first ++ last).length
  full : t.rx.full.toNat = (first ++ last).length
  sum : t.rx.sum = 0x90 + bodySum (header ++ first)
  count : t.rx.count.toNat = 11 + first.length
  limit : first.length ≤ t.rx.limit.toNat
  scratch : ∀ (j : Nat) (v : Byte), first[j]? = some v → t.scratchByte j = v
  corr : t.corr = s.corr
  recs : t.recs = s.recs
  params : t.params = s.params

theorem State.MidFrame.payloadSeen (h : s.MidFrame header first last t) : t.payloadSeen = first.length := by
  rw [State.payloadSeen, h.count]
  split <;> omega

theorem State.MidFrame.recvRecord (h : s.MidFrame header first last t) : t.recvRecord r = s.recvRecord r := by
  rw [State.recvRecord, h.recs]; rfl

/-- A delimiter among the moves (R105). -/
theorem State.Reaches.delimiter (h : s.Reaches s (pushMove 0x7E :: rest)) :
    ∃ m, s.Hears m rest ∧ m.rx.state = .length1 ∧ m.corr = s.corr ∧ m.recs = s.recs ∧ m.params = s.params := by
  have hmark : s.Reaches (State.resync { s with inputs := rest }) rest := h.push rfl
  have hk := (resync_effect (s := { s with inputs := rest })).kept
  exact ⟨_, ⟨hmark, by simp, hk.task, hk.taskEvents⟩, by simp, by simp, by simp, by simp⟩

theorem State.Scratched.midFrame {declared : U16}
    (h : (s.atTypeOf declared).acceptForScratch.Scratched (header ++ first) t) (hinv : RxInv t)
    (hheader : header.length = 11) (hlen : (declared - 1).toNat = 11 + (first ++ last).length)
    (hfirst : first.length ≤ s.params.scratchCapacity.toNat) : s.MidFrame header first last t := by
  have htlen : t.rx.len.toNat = 11 + (first ++ last).length := (congrArg BitVec.toNat h.len).trans hlen
  obtain ⟨hfull, -⟩ := hinv.limit (.inl h.state)
  have h11 : (11 : U16) ≤ t.rx.len := by rw [BitVec.le_def, htlen]; exact Nat.le_add_right _ _
  have hlimit := acceptForScratch_limit (s := s) (declared := declared) (by omega)
  exact {
    state := h.state
    type := h.type
    len := htlen
    full := by rw [hfull, BitVec.toNat_sub_of_le h11, htlen]; exact Nat.add_sub_cancel_left ..
    sum := h.sum
    count := by rw [h.count, List.length_append, hheader]
    limit := by
      rw [h.limit, hlimit, hlen, List.length_append]
      omega
    scratch := fun j v hv => h.payload j v (by
      rwa [← hheader, List.getElem?_append_right (Nat.le_add_right _ _), Nat.add_sub_cancel_left])
    corr := h.corr
    recs := h.recs
    params := h.params }

/-- The moves up to the last byte of `first` bring a block with no command active into the middle of the frame. -/
theorem State.Reaches.midFrame {declared : U16} (hdecl : declared = BitVec.ofNat 16 (12 + (first ++ last).length))
    (h : s.Reaches s (pushMove 0x7E ::
      (valueMoves (hiByte declared :: loByte declared :: 0x90 :: (header ++ first)) ++ rest)))
    (hop : s.task.op = .noOp) (hheader : header.length = 11) (hlen : 12 + (first ++ last).length ≤ 0xFFFF)
    (hfirst : first.length ≤ s.params.scratchCapacity.toNat) :
    ∃ t, s.Hears t rest ∧ s.MidFrame header first last t := by
  obtain ⟨-, -, -, -, -, hpending⟩ := h.inv.task.noOp hop
  have hbody : (declared - 1).toNat = 11 + (first ++ last).length := by rw [hdecl]; bv_omega
  have hle : (header ++ first).length ≤ 11 + (first ++ last).length := by simp [hheader]
  obtain ⟨m, hm, hstate, hcorr, hrecs, hparams⟩ := h.delimiter
  obtain ⟨t, ht, hscratch⟩ := hm.scratched hstate (hcorr ▸ hpending) (by bv_omega) (by omega) (by omega)
    (by rw [hparams, hbody, List.length_append, hheader]; simp; omega)
  have hmid : m.MidFrame header first last t :=
    hscratch.midFrame ht.inv.rx hheader hbody (hparams ▸ hfirst)
  exact ⟨t, ht, { hmid with
    corr := hmid.corr.trans hcorr, recs := hmid.recs.trans hrecs, params := hmid.params.trans hparams }⟩

/-- `u` is `t` after the RECEIVE of `r` and its copy: the frame in Data is the session's, the bytes that scratch held
stand in the buffer, and the task waits (R147, R148, R150). -/
structure State.Claimed (t : State) (r : Ref) (u : State) : Prop where
  rx : u.rx = { t.rx with limit := minLen t.rx.full (t.recvRecord r).cap, state := .dataRequested }
  sess : u.corr.sess = some r
  recs : u.recs = t.recs
  params : u.params = t.params
  op : u.task.op = .recvWait
  taskEvents : u.out.task = t.out.task
  copied : ∀ j : Nat, j < min t.payloadSeen (t.recvRecord r).cap.toNat →
    Memory.read u.mem ((t.recvRecord r).bufPtr + j) = t.scratchByte j

theorem startReceive_rx_of_data (hd : s.rx.state = .data) :
    (s.startReceive r).rx =
      { s.rx with limit := minLen s.rx.full (s.recvRecord r).cap, state := .dataRequested } := by
  rw [startReceive_of_data rfl hd]
  rfl

/-- RECEIVE and its copy, among the moves. -/
theorem State.Reaches.claim (hn : n = min t.payloadSeen (t.recvRecord r).cap.toNat)
    (h : s.Reaches t (.operation (encode (.receive r)) :: (List.replicate n .resume ++ rest)))
    (hop : t.task.op = .noOp) (ha : t.corr.assoc = .associated) (hd : t.rx.state = .data)
    (hseen : t.payloadSeen ≤ t.rx.limit.toNat)
    (hv : ∀ j : Nat, j < n → addrValid t.params ((t.recvRecord r).bufPtr + j) = true) :
    ∃ u, s.Reaches u rest ∧ t.Claimed r u := by
  have hreceive := h.receive hop ha
  have hcopy : State.CopyFor (State.startReceive { t with inputs := List.replicate n .resume ++ rest } r) r n :=
    copyFor_startReceive hd hseen hn hv
  obtain ⟨u, hu⟩ := (copied_startReceive { hreceive with run := rfl } rfl hd hn).all hcopy (Nat.zero_add n)
  refine ⟨u, { hu.toReaches with run := hreceive.run.trans hu.run }, {
    rx := by rw [hu.kept]; exact startReceive_rx_of_data (s := { t with inputs := _ }) hd
    sess := by rw [hu.kept]; rfl
    recs := by rw [hu.kept]; rfl
    params := by rw [hu.kept]; rfl
    op := hu.op.trans (if_neg (lt_irrefl n))
    taskEvents := by rw [hu.kept]; rfl
    copied := fun j hj => (hu.copied j (hn ▸ hj)).trans ?_ }⟩
  exact congrArg (tableGet unlistedByte · j) (repoint_rx_scratch (t.recvRecord r).cap)

/-- The limit is the whole buffer where the payload is longer (R148). -/
theorem State.MidFrame.limit_claimed (hmid : s.MidFrame header first last t) (hclaim : t.Claimed r u)
    (hcap : (s.recvRecord r).cap.toNat < (first ++ last).length) :
    u.rx.limit.toNat = (s.recvRecord r).cap.toNat := by
  rw [hclaim.rx, ← hmid.recvRecord (r := r)]
  exact (minLen_toNat _ _).trans (by rw [hmid.full, hmid.recvRecord]; omega)

theorem State.Claimed.recvRecord (h : t.Claimed r u) : u.recvRecord r = t.recvRecord r := by
  rw [State.recvRecord, h.recs]; rfl

/-- The frame goes on as one accepted for the session, `first` stored in the buffer (R147, R148). -/
theorem State.MidFrame.forSession (hmid : s.MidFrame header first last t) (hclaim : t.Claimed r u)
    (hwf : Memory.wf u.mem = true) (hcap : (s.recvRecord r).cap.toNat < (first ++ last).length)
    (hv : ∀ j : Nat, j < (s.recvRecord r).cap.toNat → addrValid s.params ((s.recvRecord r).bufPtr + j) = true) :
    (u.frameStart (u.rx.hdr.toList ++ first)).ForSession r where
  state := by rw [State.frameStart, hclaim.rx]
  type := by rw [State.frameStart, hclaim.rx]; exact hmid.type
  count := rfl
  sess := hclaim.sess
  wf := hwf
  valid j hj := by
    have hrec : u.recvRecord r = s.recvRecord r := hclaim.recvRecord.trans hmid.recvRecord
    have hj : j < (s.recvRecord r).cap.toNat := hmid.limit_claimed hclaim hcap ▸ hj
    have hparams : u.params = s.params := hclaim.params.trans hmid.params
    exact hparams ▸ hrec ▸ hv j hj

theorem State.MidFrame.stored (hmid : s.MidFrame header first last t) (hclaim : t.Claimed r u)
    (hcap : (s.recvRecord r).cap.toNat < (first ++ last).length)
    (hsession : (u.frameStart (u.rx.hdr.toList ++ first)).ForSession r) :
    (u.frameStart (u.rx.hdr.toList ++ first)).Stored r (u.rx.hdr.toList ++ first) u := by
  refine stored_frameStart hsession (by rw [hclaim.rx]; exact hmid.count) fun j v hv hj => ?_
  have hj' : j < (t.recvRecord r).cap.toNat := by
    rw [hmid.recvRecord]; exact hmid.limit_claimed hclaim hcap ▸ hj
  have hseen : j < t.payloadSeen := hmid.payloadSeen ▸ (List.getElem?_eq_some_iff.mp hv).1
  rw [hclaim.recvRecord, hclaim.copied j (lt_min hseen hj'), hmid.scratch j v hv]

/-- The checksum byte of the whole frame is the one that the rest of the frame needs (R71). -/
theorem State.MidFrame.checksum (hmid : s.MidFrame header first last t) (hclaim : t.Claimed r u) :
    (u.frameStart (u.rx.hdr.toList ++ first)).rx.sum + bodySum (u.rx.hdr.toList ++ first ++ last) +
      checksumOf (bodySum (0x90 :: (header ++ (first ++ last)))) = 0xFF := by
  have hsum : u.rx.sum = 0x90 + bodySum (header ++ first) := by rw [hclaim.rx]; exact hmid.sum
  have hwhole : u.rx.sum + bodySum last = bodySum (0x90 :: (header ++ (first ++ last))) := by
    rw [hsum, bodySum, ← List.append_assoc, bodySum_append (header ++ first), add_assoc]
  rw [bodySum_append _ last, ← hwhole, State.frameStart, checksumOf]
  ring

/-- Settles O42: to the middle of the frame, through the RECEIVE and its copy, to the end of the frame, and out. -/
theorem receiveOverlapTruncates : Obligations.ReceiveOverlapTruncates := by
  intro s r header first last cap hinv hlive hheld hop hassoc hheader hlen _ hfirst hcap hlt hvalid hmoves
  subst hcap
  obtain ⟨htake, hdrop⟩ := frameValues_cut last hheader
  rw [htake, hdrop] at hmoves
  have hdeclared : (0x90 :: (header ++ (first ++ last)) : List Byte).length = 12 + (first ++ last).length := by
    rw [List.length_cons, List.length_append, hheader]; omega
  obtain ⟨t, ht, hmid⟩ := State.Reaches.midFrame (congrArg _ hdeclared)
    ⟨rfl, hinv, hlive, hheld, hmoves.trans (by simp only [List.append_assoc]; rfl)⟩ hop hheader hlen hfirst
  have hcount : min first.length (s.recvRecord r).cap.toNat = min t.payloadSeen (t.recvRecord r).cap.toNat := by
    rw [hmid.payloadSeen, hmid.recvRecord]
  obtain ⟨u, hu, hclaim⟩ := ht.claim hcount (ht.task ▸ hop) (hmid.corr ▸ hassoc) hmid.state
    (hmid.payloadSeen ▸ hmid.limit)
    (fun j hj => hmid.params ▸ hmid.recvRecord (r := r) ▸ hvalid j (hj.trans_le (min_le_right _ _)))
  have hsession := hmid.forSession hclaim hu.inv.store.mem hlt hvalid
  have hears : u.Hears u (valueMoves _ ++ [.resume]) :=
    ⟨{ hu with run := rfl }, by rw [hclaim.rx]; exact ht.esc, rfl, rfl⟩
  have hbody : (u.rx.hdr.toList ++ first ++ last).length = u.rx.len.toNat := by
    rw [hclaim.rx]; simp [hmid.len]
  obtain ⟨w, hstored, hw⟩ := (hmid.stored hclaim hlt hsession).delivers hsession hears hbody (hmid.checksum hclaim)
  have hrun := hw.receiveReturns ((congrArg TaskRegs.op hw.task).trans hclaim.op) rfl
  have hrec : u.recvRecord r = s.recvRecord r := hclaim.recvRecord.trans hmid.recvRecord
  have hlimit := hmid.limit_claimed hclaim hlt
  refine ⟨_, hu.run.trans hrun, ?_, rfl, ?_, fun j v hj hv => ?_⟩
  · have hevents : w.out.task = s.out.task := hw.taskEvents.trans (hclaim.taskEvents.trans ht.taskEvents)
    exact congrArg _ hevents
  · have htable : tableWf RecvRecord.zero w.recs.recvs = true := by rw [hstored.recs]; exact hu.inv.store.recvs
    have hrecord := congrArg (·.length.toNat) (recvRecord_delivered (r := r) htable)
    exact hrecord.trans ((congrArg BitVec.toNat hstored.limit).trans hlimit)
  · rw [← hrec]
    refine hstored.payload j v ?_ (hlimit ▸ hj)
    rwa [List.append_assoc, List.getElem?_append_right (by simp), Vector.length_toList, Nat.add_sub_cancel_left]

end Sys2Proof.Machine
end

section
/-! A block that delivers nothing: a recorded fault halts every instruction (R161), and a masked byte event is held
(R167). -/

namespace Sys2Proof.Machine

variable {s : State}

/-! A recorded fault. -/

theorem taskPhase_of_fault {f : FaultCode} (r : Res) (h : s.fault = some f) : taskPhase s r = .fault (.halted f) :=
  whenLive_of_fault s _ f h

theorem deliver_of_fault {f : FaultCode} (e : ByteEvent) (r : Res) (h : s.fault = some f) :
    deliver e s r = .fault (.halted f) :=
  whenLive_of_fault s _ f h

/-- Every instruction is a byte event or a phase of the task, and a recorded fault halts both (R161). -/
theorem exec_of_fault {f : FaultCode} (i : Instr) (h : s.fault = some f) : exec i s = .fault (.halted f) := by
  cases i with
  | push | pull | rxFlow11 | rxFlow13 | rxDelim7e | rxEsc7d | rxData => exact deliver_of_fault _ _ h
  | _ => exact taskPhase_of_fault _ h

theorem step_of_fault {f : FaultCode} (h : s.fault = some f) : step s = .fault (.halted f) := by
  rw [step, State.fetch, h]

/-- Settles O7: an instruction is halted where it is delivered, a step where it fetches. -/
theorem faultedBlockIsHalted : Obligations.FaultedBlockIsHalted :=
  fun _ _ h => ⟨fun i => exec_of_fault i h, step_of_fault h⟩

/-! Held byte events. -/

/-- The oldest held event is delivered before any other move, taken from the list (R167; log 10). -/
theorem step_of_held {e : ByteEvent} {rest : List ByteEvent} (hr : s.Ready) (hheld : s.held = e :: rest) :
    step s = exec e.instr { s with held := rest } := by
  obtain ⟨hlive, hie⟩ := hr
  rw [step, State.fetch, hlive, hie, hheld]

/-- Settles O5: both byte events are held while masked, whichever row delivers them. -/
theorem maskedEventsAreHeld : Obligations.MaskedEventsAreHeld := by
  refine ⟨fun s b hlive hie => ?_, fun _ _ _ => step_of_held, fun _ _ => step_of_held⟩
  have hpush : exec (.push b) s = .next { s with held := s.held ++ [.push b] } := deliver_of_masked s _ _ hlive hie
  exact ⟨hpush, pushRunsTheRawByteRow b s ▸ hpush, deliver_of_masked s _ _ hlive hie⟩

end Sys2Proof.Machine
end

section
/-! No stop but a recorded fault: in a state of the invariant each operation and each resumption runs to its end or
raises a model fault, so none of the stops of log 14 is reached (R158, R161). -/

namespace Sys2Proof.Machine

variable {s : State}

/-- The pseudocode of a step ran to its end or raised a model fault; it met no stop of log 14. -/
inductive Res.NoStop : Res → Prop
  | ok (t : State) : NoStop (.ok t)
  | raise (f : FaultCode) : NoStop (.raise f)

theorem Res.NoStop.settle {r : Res} (h : r.NoStop) (s : State) : ∃ t, Machine.settle s r = .next t := by
  cases h with
  | ok t => exact ⟨t, rfl⟩
  | raise f => exact ⟨s.raise f, rfl⟩

theorem Res.NoStop.taskPhase {r : Res} (h : r.NoStop) (hlive : s.Live) : ∃ t, Machine.taskPhase s r = .next t := by
  rw [taskPhase_of_live s r hlive]
  exact h.settle s

theorem Res.NoStop.andThen {r : Res} {k : State → Res} (h : r.NoStop) (hk : ∀ t, (k t).NoStop) :
    (r.andThen k).NoStop := by
  cases h with
  | ok t => exact hk t
  | raise f => exact .raise f

theorem critical_noStop {body : State → Res} (h : ∀ u, (body u).NoStop) : (s.critical body).NoStop :=
  (h _).andThen fun _ => .ok _

/-! PULL: a header index of the invariant is one of the 14 bytes (R26, R96). -/

theorem TxInv.idx_lt {x : TxRegs} (h : TxInv x) (hs : x.state = .header) : x.idx.toNat < 14 :=
  (h.headerIndex hs).trans_le (h.hdrLen_le (by simp [hs]))

theorem pullHeader_noStop (h : TxInv s.tx) (hs : s.tx.state = .header) : s.pullHeader.NoStop := by
  unfold State.pullHeader
  rw [Vector.getElem?_eq_getElem (h.idx_lt hs)]
  exact .ok _

theorem pullData_noStop : s.pullData.NoStop := by
  unfold State.pullData
  split
  · exact .raise _
  · exact .ok _

theorem pullBody_noStop (h : TxInv s.tx) : s.pullBody.NoStop := by
  unfold State.pullBody
  split
  · exact .ok _
  · split
    next => exact .ok _
    next => exact .ok _
    next => exact .ok _
    next => exact .ok _
    next hs => exact pullHeader_noStop h hs
    next => exact pullData_noStop
    next => exact .ok _

/-! PUSH, what a value needs of the block: a descriptor for the session, a header size, and a request. -/

theorem acceptReceivePacket_noStop (h : s.corr.sessPending = true → ∃ r, s.corr.sess = some r) :
    s.acceptReceivePacket.NoStop := by
  unfold State.acceptReceivePacket
  dsimp only
  split
  · exact .ok _
  · split
    next hp =>
      obtain ⟨r, hr⟩ := h hp
      rw [hr]
      exact .ok _
    next => exact .ok _

theorem typeByte_noStop (v : Byte) (h : s.corr.sessPending = true → ∃ r, s.corr.sess = some r) :
    (s.typeByte v).NoStop := by
  unfold State.typeByte
  split_ifs
  · exact .ok _
  · exact .ok _
  · exact .ok _
  · exact acceptReceivePacket_noStop (s := s.startBody v) h
  · exact .ok _

theorem payloadToSession_noStop {v : Byte} {j : Nat} {r : Ref} (hr : s.corr.sess = some r) :
    (s.payloadToSession j v).NoStop := by
  obtain hj | hj := lt_or_ge j s.rx.limit.toNat
  · cases hv : addrValid s.params ((s.recvRecord r).bufPtr + j) with
    | true => rw [payloadToSession_of_valid hj hr hv]; exact .ok _
    | false => rw [payloadToSession_of_invalid hj hr hv]; exact .raise _
  · rw [payloadToSession_of_limit hj]
    exact .ok _

theorem payloadByte_noStop {v : Byte} {k : Nat}
    (h : s.rx.state = .dataRequested → ∃ r, s.corr.sess = some r) : (s.payloadByte k v).NoStop := by
  unfold State.payloadByte
  split
  next => exact .ok _
  next hs =>
    obtain ⟨r, hr⟩ := h hs
    exact payloadToSession_noStop hr
  all_goals exact .ok _

theorem bodyByte_noStop {v : Byte} {k : Nat} (hk : headerSize s.rx.type = some k)
    (h : s.rx.state = .dataRequested → ∃ r, s.corr.sess = some r) : (s.bodyByte v).NoStop := by
  obtain hlt | hle := lt_or_ge s.rx.count.toNat k
  · rw [bodyByte_of_header hk hlt]
    exact .ok _
  · rw [bodyByte_of_payload hk hle]
    exact (payloadByte_noStop h).andThen fun _ => .ok _

theorem drawInto_noStop (n a : Nat) (s : State) : (State.drawInto n a s).NoStop := by
  induction n generalizing a s with
  | zero => exact .ok s
  | succ n ih =>
    cases hv : addrValid s.params a with
    | true => rw [drawInto_succ_of_valid n hv]; exact ih _ _
    | false => rw [drawInto_succ_of_invalid n hv]; exact .raise _

theorem completeTransmitStatus_noStop {q : ReqRef} (hq : s.corr.req = some q) : s.completeTransmitStatus.NoStop := by
  rw [State.completeTransmitStatus, hq]
  exact .ok _

theorem completeAtResponse_noStop {d : Ref} (hq : s.corr.req = some (.atCommand d)) :
    s.completeAtResponse.NoStop := by
  rw [State.completeAtResponse, hq]
  dsimp only
  split
  · exact drawInto_noStop _ _ _
  · exact .ok _

theorem completeDelivery_noStop {r : Ref} (hr : s.corr.sess = some r) : s.completeDelivery.NoStop := by
  rw [State.completeDelivery, hr]
  exact .ok _

/-! PUSH, in a state of the invariant. -/

/-- A session is pending only under a RECEIVE, which has its descriptor (R37, R39, R149). -/
theorem TaskInv.sess_of_pending (h : TaskInv s) (hp : s.corr.sessPending = true) : ∃ r, s.corr.sess = some r := by
  cases hop : s.task.op with
  | noOp =>
    obtain ⟨-, -, -, -, -, hclear⟩ := h.noOp hop
    exact absurd (hclear.symm.trans hp) nofun
  | submitWait =>
    obtain ⟨-, -, -, hclear, -⟩ := h.submitWait hop
    exact absurd (hclear.symm.trans hp) nofun
  | recvCopy =>
    obtain ⟨-, -, -, -, hsess, -⟩ := h.recvCopy hop
    exact Option.ne_none_iff_exists'.mp hsess
  | recvWait =>
    obtain ⟨-, -, -, -, hsess⟩ := h.recvWait hop
    exact Option.ne_none_iff_exists'.mp hsess

theorem Inv.sess_of_dataRequested (hi : Inv s) (hs : s.rx.state = .dataRequested) : ∃ r, s.corr.sess = some r :=
  hi.task.sess_of_pending (hi.rx.dataRequested hs)

/-- The type byte of every body state has a header size (R82, R113 to R116). -/
theorem RxState.IsBody.typeByte_headerSize {st : RxState} (h : st.IsBody) :
    ∃ b k, st.typeByte = some b ∧ headerSize b = some k := by
  cases st with
  | modemStatus | transmitStatus | atResponse | data | dataRequested => exact ⟨_, _, rfl, rfl⟩
  | _ => exact h.elim

theorem complete_noStop (hi : Inv s) : s.complete.NoStop := by
  unfold State.complete
  split
  next => exact .ok _
  next hs =>
    obtain ⟨d, hq⟩ := hi.task.expectTx (hi.rx.transmitStatus hs)
    exact completeTransmitStatus_noStop hq
  next hs =>
    obtain ⟨d, hq⟩ := hi.task.expectAt (hi.rx.atResponse hs)
    exact completeAtResponse_noStop hq
  next hs =>
    obtain ⟨r, hr⟩ := hi.sess_of_dataRequested hs
    exact completeDelivery_noStop hr
  all_goals exact .ok _

theorem checksumByte_noStop (hi : Inv s) (v : Byte) : (s.checksumByte v).NoStop := by
  unfold State.checksumByte
  split
  · exact (complete_noStop hi).andThen fun _ => .ok _
  · exact .ok _

theorem bodyValue_noStop (hi : Inv s) (v : Byte) (hs : s.rx.state.IsBody) : (s.bodyValue v).NoStop := by
  obtain ⟨b, k, hb, hk⟩ := hs.typeByte_headerSize
  unfold State.bodyValue
  split
  · exact bodyByte_noStop (hi.rx.type b hb ▸ hk) hi.sess_of_dataRequested
  · exact checksumByte_noStop hi v

theorem rxValue_noStop (hi : Inv s) (v : Byte) : (s.rxValue v).NoStop := by
  by_cases hs : s.rx.state.IsBody
  · rw [rxValue_of_body s v hs]
    exact bodyValue_noStop hi v hs
  · unfold State.rxValue
    split
    next => exact .ok _
    next => exact .ok _
    next => exact .ok _
    next => exact typeByte_noStop v hi.task.sess_of_pending
    all_goals next hbody => exact absurd (hbody ▸ trivial) hs

theorem Inv.escapeDone (hi : Inv s) : Inv s.escapeDone :=
  ⟨hi.ie, hi.tx, { hi.rx with }, { hi.task with }, { hi.store with }⟩

theorem pushBody_noStop (hi : Inv s) (b : Byte) : (s.pushBody b).NoStop := by
  unfold State.pushBody
  split_ifs
  · exact .ok _
  · exact .ok _
  · exact .ok _
  · exact rxValue_noStop hi.escapeDone _

/-! The task commands, and the resumption of the task. -/

theorem submitChecks_noStop {c : TaskCommand} {len : Nat} (t : State) : (s.submitChecks c len (.ok t)).NoStop := by
  unfold State.submitChecks
  split_ifs
  · exact .raise _
  · exact .raise _
  · exact .ok t

theorem receiveBody_noStop (r : Ref) (s : State) : (s.receiveBody r).NoStop := by
  unfold State.receiveBody
  split_ifs
  · exact .raise _
  · exact .ok _
  · exact .ok _

theorem assocReadBody_noStop (s : State) : s.assocReadBody.NoStop := by
  unfold State.assocReadBody
  split
  · exact .raise _
  · exact .ok _

theorem submitPhaseW_noStop {q : ReqRef} (hq : s.corr.req = some q) : s.submitPhaseW.NoStop := by
  by_cases hdone : s.submitDone = true
  · rw [submitPhaseW_of_done hdone hq]
    exact .ok _
  · rw [submitPhaseW_of_not_done hdone]
    exact .ok _

theorem receivePhaseB_noStop {r : Ref} (hr : s.corr.sess = some r) : s.receivePhaseB.NoStop := by
  cases hv : addrValid s.params ((s.recvRecord r).bufPtr + s.task.copyI.toNat) with
  | true => rw [receivePhaseB_of_valid hr hv]; exact .ok _
  | false => rw [receivePhaseB_of_invalid hr hv]; exact .raise _

theorem receivePhaseW_noStop : s.receivePhaseW.NoStop := by
  cases hp : s.corr.sessPending with
  | true => rw [receivePhaseW_of_pending hp]; exact .ok _
  | false => rw [receivePhaseW_of_clear hp]; exact .ok _

theorem resumeTask_noStop (h : TaskInv s) : s.resumeTask.NoStop := by
  unfold State.resumeTask
  split
  next => exact .ok _
  next hop =>
    obtain ⟨-, hreq, -⟩ := h.submitWait hop
    obtain ⟨q, hq⟩ := Option.ne_none_iff_exists'.mp hreq
    exact submitPhaseW_noStop hq
  next hop =>
    obtain ⟨-, -, -, -, hsess, -⟩ := h.recvCopy hop
    obtain ⟨r, hr⟩ := Option.ne_none_iff_exists'.mp hsess
    exact receivePhaseB_noStop hr
  next => exact receivePhaseW_noStop

/-! Every move of the environment. -/

/-- An operation of R87 comes to a next state. -/
theorem Inv.exec_next {i : Instr} (hi : Inv s) (hlive : s.Live) (hf : i.format = .op3) : ∃ t, exec i s = .next t := by
  cases i with
  | push b => exact execPush_of_ready s b ⟨hlive, hi.ie⟩ ▸ (pushBody_noStop hi b).settle s
  | pull => exact execPull_of_ready s ⟨hlive, hi.ie⟩ ▸ (pullBody_noStop hi.tx).settle s
  | submitAt | submitTx => exact (critical_noStop fun _ => submitChecks_noStop _).taskPhase hlive
  | receive r => exact (critical_noStop (receiveBody_noStop r)).taskPhase hlive
  | assocRead => exact (critical_noStop assocReadBody_noStop).taskPhase hlive
  | reserved110 | reserved111 => exact (Res.NoStop.raise _).taskPhase hlive
  | _ => nomatch hf

/-- The environment's next move comes to a next state, unless it is bytes that are no operation. -/
theorem Inv.step_next_of_takes {i : Input} {rest : List Input} (hi : Inv s) (h : s.Takes i rest) :
    (∃ t, step s = .next t) ∨ ∃ bytes e, i = .operation bytes ∧ decodeOperation bytes = .error e := by
  have hnext : Inv { s with inputs := rest } := hi.setQueues s.held rest
  have hlive : State.Live { s with inputs := rest } := h.1
  cases i with
  | operation bytes =>
    cases hd : decodeOperation bytes with
    | error e => exact .inr ⟨bytes, e, rfl, hd⟩
    | ok j =>
      rw [stepRunsTheOperation s bytes rest j h hd]
      exact .inl (hnext.exec_next hlive (format_of_decodeOperation hd))
  | resume =>
    rw [step_of_resume s rest h]
    exact .inl ((resumeTask_noStop hnext.task).settle _)
  | callerByte | callerAt | callerTx | callerRecv =>
    rw [step, fetch_of_takes h]
    exact .inl ⟨_, rfl⟩

/-- Settles O60: the step runs a held byte event, waits for a move, or takes the environment's next move, and in a
state of the invariant none of them stops. -/
theorem everyMoveComesToANextState : Obligations.EveryMoveComesToANextState := by
  intro s hi hlive
  cases hheld : s.held with
  | cons e rest =>
    have hop : e.instr.format = .op3 := by cases e <;> rfl
    rw [step_of_held ⟨hlive, hi.ie⟩ hheld]
    exact .inl ((hi.setQueues rest s.inputs).exec_next hlive hop)
  | nil =>
    cases hinputs : s.inputs with
    | nil =>
      refine .inl ⟨s, ?_⟩
      rw [step, State.fetch, hlive, hi.ie, hheld, State.nextInput, hinputs]
    | cons i rest =>
      obtain hnext | ⟨bytes, e, rfl, he⟩ := hi.step_next_of_takes ⟨hlive, .inl hheld, hinputs⟩
      · exact .inl hnext
      · exact .inr ⟨bytes, rest, e, rfl, he⟩

end Sys2Proof.Machine
end

section
/-! The state after reset: the values of R184, and the invariant there. Each part of the invariant holds wherever its
registers rest: no frame is being sent, no frame body received, no command active, and nothing stored. -/

namespace Sys2Proof.Machine

variable {s : State}

/-- Settles O56: each group of registers is given its values by name, and the scratch left open is the one reset holds. -/
theorem resetValues : Obligations.ResetValues :=
  ⟨rfl, ⟨State.reset.rx.scratch, rfl⟩, rfl, rfl, rfl, rfl⟩

/-! The parts of the invariant at rest. -/

/-- While no frame is being sent and no byte is held, the invariant asks nothing of the Transmitter. -/
theorem TxInv.of_idle {x : TxRegs} (hs : x.state = .idle) (hp : x.escPending = false) : TxInv x where
  header hx := absurd hs hx
  length hx := absurd hs hx
  headerIndex hx := nomatch hs.symm.trans hx
  dataIndex hx := nomatch hs.symm.trans hx
  escape hx := nomatch hp.symm.trans hx

/-- With no command active, the task part asks only that nothing is outstanding (R45). -/
theorem TaskInv.of_noOp (hop : s.task.op = .noOp) (hw : s.task.wait = .none) (hi : s.tx.state = .idle)
    (he : s.corr.expect = .none) (hq : s.corr.req = none) (hs : s.corr.sess = none)
    (hp : s.corr.sessPending = false) : TaskInv s where
  noOp _ := ⟨hw, hi, he, hq, hs, hp⟩
  submitWait h := nomatch hop.symm.trans h
  expectAt h := nomatch he.symm.trans h
  expectTx h := nomatch he.symm.trans h
  recvCopy h := nomatch hop.symm.trans h
  recvWait h := nomatch hop.symm.trans h
  associated h := nomatch hp.symm.trans h

/-- Nothing is stored after reset, so nothing lies outside what exists. -/
theorem StoreInv.reset : StoreInv State.reset where
  mem := Memory.reset_wf
  memValid _ hc := absurd hc List.not_mem_nil
  scratch := rfl
  scratchInside _ hc := absurd hc List.not_mem_nil
  atCmds := rfl
  txDatas := rfl
  recvs := rfl

/-- Settles O58: reset is at rest in every part, the Receiver in its frame search. -/
theorem resetMeetsInv : Obligations.ResetMeetsInv where
  ie := rfl
  tx := .of_idle rfl rfl
  rx := .of_not_isBody not_false
  task := .of_noOp rfl rfl rfl rfl rfl rfl rfl
  store := .reset

end Sys2Proof.Machine
end
